-- ==== Sys2Proof/Word.lean ====
section
/-! DEFINITION. The two word types of the CatLooks/6502 core (00_scope.md R7): the 8-bit byte and the 16-bit address. -/

namespace Sys2Proof

/-- The addressable unit, and the width of A, X, Y, S and P (R7). -/
abbrev Byte := BitVec 8

/-- The width of PC and of an address (R7). -/
abbrev Addr := BitVec 16

end Sys2Proof
end

