-- ==== Sys2Proof/Machine/Bytes.lean ====
section
/-! DEFINITION. Byte order and sign extension: how a word is made of two bytes and a displacement of one (00_scope.md R10, R11). -/

namespace Sys2Proof

/-- `{hi, lo}`: the word `(hi << 8) | lo` (R10). -/
def joinBytes (hi lo : Byte) : Addr := hi ++ lo

/-- Bits 7:0 of a word. -/
def lowByte (w : Addr) : Byte := w.extractLsb' 0 8

/-- Bits 15:8 of a word. -/
def highByte (w : Addr) : Byte := w.extractLsb' 8 8

/-- `sext_8(b)`: `b` when `b < 128`, `b - 256` when `b >= 128` (R11). -/
def sext8 (b : Byte) : Int := if b.toNat < 128 then b.toNat else (b.toNat : Int) - 256

/-- `v mod 256` of any integer, as a byte (10_state.md R21, R30). -/
def byteOfInt (v : Int) : Byte := BitVec.ofInt 8 v

end Sys2Proof
end

