-- ==== Sys2Proof/Machine/Params.lean ====
section
/-! DEFINITION. The four named Boolean parameters of 00_scope.md R8 with the values the spec decides for this hardware
(92_eei_decisions.md D7, D12, D13, D14; notes/assumptions/7.md). The operations that read one take it as an argument, so that
either value can be reasoned about; the meanings pass the value that stands here. -/

namespace Sys2Proof.Machine

/-- `ADC_SBC_WRITE_V`: false, ADC and SBC leave V unchanged (R8, D7). -/
def adcSbcWriteV : Bool := false

/-- `TXS_UPDATES_NZ`: false, TXS writes no flag (R8, D12). -/
def txsUpdatesNZ : Bool := false

/-- `IND_JMP_PAGE_WRAP`: false, JMP (indirect) reads the high byte at `(ptr + 1) & 0xFFFF` (R8, D13). -/
def indJmpPageWrap : Bool := false

/-- `ZP_PTR_WRAP`: false, a zero-page pointer's high byte is at `(zp + 1) & 0xFFFF` (R8, D14). -/
def zpPtrWrap : Bool := false

end Sys2Proof.Machine
end

