-- ==== Sys2Proof/Machine/Flags.lean ====
section
/-! DEFINITION. The flags of P and every flag computation (10_state.md R27 to R31; 42_arithmetic.md R142 to R144;
43_logical.md R154; 44_shift_rotate.md R160; 46_compare.md R180). Pure functions on P and the operands. -/

namespace Sys2Proof.Machine

/-- The eight bits of P (R27). -/
inductive Flag where
  | C | Z | I | D | B | U | V | N
  deriving DecidableEq, Repr

/-- Bit positions within P, bit 0 least significant (R27). -/
def Flag.bit : Flag → Nat
  | .C => 0
  | .Z => 1
  | .I => 2
  | .D => 3
  | .B => 4
  | .U => 5
  | .V => 6
  | .N => 7

/-- `getFlag(bitIndex)` (R29). -/
def getFlag (f : Flag) (p : Byte) : Bool := p.getLsbD f.bit

/-- `setFlag(bitIndex, b)`: "clears then ORs the target bit, leaving all others untouched" (R29). -/
def setFlag (f : Flag) (b : Bool) (p : Byte) : Byte :=
  (p &&& ~~~(1#8 <<< f.bit)) ||| ((if b then 1#8 else 0#8) <<< f.bit)

/-- `SetN(v)` for the low byte of `v` (R30). -/
def setN (v : Byte) (p : Byte) : Byte := setFlag .N (v.getLsbD 7) p

/-- `SetNZ(v)` for the low byte of `v` (R31). -/
def setNZ (v : Byte) (p : Byte) : Byte := setFlag .Z (v == 0) (setN v p)

/-- The unmasked sum `A + M + C`, 0 to 511 (R142). -/
def adcSum (a m : Byte) (c : Bool) : Nat := a.toNat + m.toNat + c.toNat

/-- The unmasked difference `A - M - (1 - C)`, -256 to 255 (R143). -/
def sbcDiff (a m : Byte) (c : Bool) : Int := (a.toNat : Int) - m.toNat - (1 - (c.toNat : Int))

/-- The sum masked to 8 bits (R142). -/
def adcResult (a m : Byte) (c : Bool) : Byte := BitVec.ofNat 8 (adcSum a m c)

/-- The difference masked to 8 bits (R143). -/
def sbcResult (a m : Byte) (c : Bool) : Byte := byteOfInt (sbcDiff a m c)

/-- `OverflowAdd` with `r` the 8-bit result (R144). -/
def overflowAdd (a m r : Byte) : Bool := (a ^^^ r) &&& (m ^^^ r) &&& 0x80 != 0

/-- `OverflowSub` with `r` the 8-bit result (R144). -/
def overflowSub (a m r : Byte) : Bool := (a ^^^ r) &&& (a ^^^ m) &&& 0x80 != 0

/-- P after ADC: C, N, Z always, V only under `ADC_SBC_WRITE_V`; D is not read (R141, R142). -/
def adcStatus (writeV : Bool) (a m p : Byte) : Byte :=
  let c := getFlag .C p
  let p := if writeV then setFlag .V (overflowAdd a m (adcResult a m c)) p else p
  setNZ (adcResult a m c) (setFlag .C (decide (adcSum a m c > 255)) p)

/-- P after SBC: C = 1 means no borrow; V only under `ADC_SBC_WRITE_V`; D is not read (R141, R143). -/
def sbcStatus (writeV : Bool) (a m p : Byte) : Byte :=
  let c := getFlag .C p
  let p := if writeV then setFlag .V (overflowSub a m (sbcResult a m c)) p else p
  setNZ (sbcResult a m c) (setFlag .C (decide (sbcDiff a m c ≥ 0)) p)

/-- `Compare(reg, M)`: unsigned C and Z, N from bit 7 of the 8-bit difference (R180). -/
def compareStatus (reg m p : Byte) : Byte :=
  setFlag .N ((reg - m).getLsbD 7) (setFlag .Z (reg == m) (setFlag .C (decide (reg.toNat ≥ m.toNat)) p))

/-- P after BIT: Z from A & M, N and V from bits 7 and 6 of M itself (R154). -/
def bitStatus (a m p : Byte) : Byte :=
  setFlag .V (m.getLsbD 6) (setFlag .N (m.getLsbD 7) (setFlag .Z (a &&& m == 0) p))

/-- `ShiftLeft(v)` (R160). -/
def shiftLeft (v : Byte) : Byte × Bool := (v <<< 1, v.getLsbD 7)

/-- `ShiftRight(v)` (R160). -/
def shiftRight (v : Byte) : Byte × Bool := (v >>> 1, v.getLsbD 0)

/-- `RotateLeft(v, c)` (R160). -/
def rotateLeft (v : Byte) (c : Bool) : Byte × Bool := ((v <<< 1) ||| (if c then 1 else 0), v.getLsbD 7)

/-- `RotateRight(v, c)` (R160). -/
def rotateRight (v : Byte) (c : Bool) : Byte × Bool := ((v >>> 1) ||| (if c then 0x80 else 0), v.getLsbD 0)

/-- P after a shift or rotate with result and carry-out `r`: `P.C <- c; SetNZ(r)` (R161). -/
def shiftStatus (r : Byte × Bool) (p : Byte) : Byte := setNZ r.1 (setFlag .C r.2 p)

end Sys2Proof.Machine
end

