-- ==== Sys2Proof/Syntax.lean ====
section
/-! DEFINITION. The instruction set as syntax: the 56 mnemonics, the 13 addressing modes, the operand forms, and Instr with
one constructor for each of the 151 rows of spec/opcode_table.json (30_encoding.md R82, R84, R86). -/

namespace Sys2Proof

/-- The 56 mnemonics, in the family order of R93. -/
inductive Mnemonic where
  | TAX | TAY | TXA | TYA | TSX | TXS | LDA | LDX | LDY | STA | STX | STY
  | ADC | SBC | AND | ORA | EOR | BIT | ASL | LSR | ROL | ROR | INC | DEC
  | INX | INY | DEX | DEY | CMP | CPX | CPY | BPL | BMI | BVC | BVS | BCC
  | BCS | BNE | BEQ | JMP | PHA | PHP | PLA | PLP | JSR | RTS | RTI | CLC
  | SEC | CLI | SEI | CLD | SED | CLV | BRK | NOP
  deriving DecidableEq, Repr

/-- The 13 addressing modes of R82. -/
inductive Mode where
  | implied | accumulator | immediate | zeroPage | zeroPageX | zeroPageY | absolute | absoluteX | absoluteY
  | indirect | indexedIndirect | indirectIndexed | relative
  deriving DecidableEq, Repr

/-- The eight modes that name a byte of memory, with their instruction bytes (40_addressing.md R104 to R109, R111, R112). -/
inductive MemRef where
  | zeroPage (d8 : Byte)
  | zeroPageX (d8 : Byte)
  | zeroPageY (d8 : Byte)
  | absolute (d16 : Addr)
  | absoluteX (d16 : Addr)
  | absoluteY (d16 : Addr)
  | indexedIndirect (d8 : Byte)
  | indirectIndexed (d8 : Byte)
  deriving DecidableEq, Repr

/-- An addressing mode with its operand bytes (R81 to R83). -/
inductive Operand where
  | implied
  | accumulator
  | immediate (d8 : Byte)
  | memory (r : MemRef)
  | indirect (d16 : Addr)
  | relative (d8 : Byte)
  deriving DecidableEq, Repr

def MemRef.mode : MemRef → Mode
  | .zeroPage _ => .zeroPage
  | .zeroPageX _ => .zeroPageX
  | .zeroPageY _ => .zeroPageY
  | .absolute _ => .absolute
  | .absoluteX _ => .absoluteX
  | .absoluteY _ => .absoluteY
  | .indexedIndirect _ => .indexedIndirect
  | .indirectIndexed _ => .indirectIndexed

def Operand.mode : Operand → Mode
  | .implied => .implied
  | .accumulator => .accumulator
  | .immediate _ => .immediate
  | .memory r => r.mode
  | .indirect _ => .indirect
  | .relative _ => .relative

/-- What an instruction reads its operand byte from: the instruction itself or memory (R114). -/
inductive Source where
  | immediate (d8 : Byte)
  | memory (r : MemRef)
  deriving DecidableEq, Repr

/-- What a shift or rotate reads and writes: A or a byte of memory (R114, R160). -/
inductive Target where
  | accumulator
  | memory (r : MemRef)
  deriving DecidableEq, Repr

def Source.operand : Source → Operand
  | .immediate d8 => .immediate d8
  | .memory r => .memory r

def Target.operand : Target → Operand
  | .accumulator => .accumulator
  | .memory r => .memory r

/-- One constructor for each row of spec/opcode_table.json, with the operand bytes the row's format has (R81, R86). -/
inductive Instr where
  | tax
  | tay
  | txa
  | tya
  | tsx
  | txs
  | ldaImmediate (d8 : Byte)
  | ldaZeroPage (d8 : Byte)
  | ldaZeroPageX (d8 : Byte)
  | ldaAbsolute (d16 : Addr)
  | ldaAbsoluteX (d16 : Addr)
  | ldaAbsoluteY (d16 : Addr)
  | ldaIndexedIndirect (d8 : Byte)
  | ldaIndirectIndexed (d8 : Byte)
  | ldxImmediate (d8 : Byte)
  | ldxZeroPage (d8 : Byte)
  | ldxZeroPageY (d8 : Byte)
  | ldxAbsolute (d16 : Addr)
  | ldxAbsoluteY (d16 : Addr)
  | ldyImmediate (d8 : Byte)
  | ldyZeroPage (d8 : Byte)
  | ldyZeroPageX (d8 : Byte)
  | ldyAbsolute (d16 : Addr)
  | ldyAbsoluteX (d16 : Addr)
  | staZeroPage (d8 : Byte)
  | staZeroPageX (d8 : Byte)
  | staAbsolute (d16 : Addr)
  | staAbsoluteX (d16 : Addr)
  | staAbsoluteY (d16 : Addr)
  | staIndexedIndirect (d8 : Byte)
  | staIndirectIndexed (d8 : Byte)
  | stxZeroPage (d8 : Byte)
  | stxZeroPageY (d8 : Byte)
  | stxAbsolute (d16 : Addr)
  | styZeroPage (d8 : Byte)
  | styZeroPageX (d8 : Byte)
  | styAbsolute (d16 : Addr)
  | adcImmediate (d8 : Byte)
  | adcZeroPage (d8 : Byte)
  | adcZeroPageX (d8 : Byte)
  | adcAbsolute (d16 : Addr)
  | adcAbsoluteX (d16 : Addr)
  | adcAbsoluteY (d16 : Addr)
  | adcIndexedIndirect (d8 : Byte)
  | adcIndirectIndexed (d8 : Byte)
  | sbcImmediate (d8 : Byte)
  | sbcZeroPage (d8 : Byte)
  | sbcZeroPageX (d8 : Byte)
  | sbcAbsolute (d16 : Addr)
  | sbcAbsoluteX (d16 : Addr)
  | sbcAbsoluteY (d16 : Addr)
  | sbcIndexedIndirect (d8 : Byte)
  | sbcIndirectIndexed (d8 : Byte)
  | andImmediate (d8 : Byte)
  | andZeroPage (d8 : Byte)
  | andZeroPageX (d8 : Byte)
  | andAbsolute (d16 : Addr)
  | andAbsoluteX (d16 : Addr)
  | andAbsoluteY (d16 : Addr)
  | andIndexedIndirect (d8 : Byte)
  | andIndirectIndexed (d8 : Byte)
  | oraImmediate (d8 : Byte)
  | oraZeroPage (d8 : Byte)
  | oraZeroPageX (d8 : Byte)
  | oraAbsolute (d16 : Addr)
  | oraAbsoluteX (d16 : Addr)
  | oraAbsoluteY (d16 : Addr)
  | oraIndexedIndirect (d8 : Byte)
  | oraIndirectIndexed (d8 : Byte)
  | eorImmediate (d8 : Byte)
  | eorZeroPage (d8 : Byte)
  | eorZeroPageX (d8 : Byte)
  | eorAbsolute (d16 : Addr)
  | eorAbsoluteX (d16 : Addr)
  | eorAbsoluteY (d16 : Addr)
  | eorIndexedIndirect (d8 : Byte)
  | eorIndirectIndexed (d8 : Byte)
  | bitZeroPage (d8 : Byte)
  | bitAbsolute (d16 : Addr)
  | aslAccumulator
  | aslZeroPage (d8 : Byte)
  | aslZeroPageX (d8 : Byte)
  | aslAbsolute (d16 : Addr)
  | aslAbsoluteX (d16 : Addr)
  | lsrAccumulator
  | lsrZeroPage (d8 : Byte)
  | lsrZeroPageX (d8 : Byte)
  | lsrAbsolute (d16 : Addr)
  | lsrAbsoluteX (d16 : Addr)
  | rolAccumulator
  | rolZeroPage (d8 : Byte)
  | rolZeroPageX (d8 : Byte)
  | rolAbsolute (d16 : Addr)
  | rolAbsoluteX (d16 : Addr)
  | rorAccumulator
  | rorZeroPage (d8 : Byte)
  | rorZeroPageX (d8 : Byte)
  | rorAbsolute (d16 : Addr)
  | rorAbsoluteX (d16 : Addr)
  | incZeroPage (d8 : Byte)
  | incZeroPageX (d8 : Byte)
  | incAbsolute (d16 : Addr)
  | incAbsoluteX (d16 : Addr)
  | decZeroPage (d8 : Byte)
  | decZeroPageX (d8 : Byte)
  | decAbsolute (d16 : Addr)
  | decAbsoluteX (d16 : Addr)
  | inx
  | iny
  | dex
  | dey
  | cmpImmediate (d8 : Byte)
  | cmpZeroPage (d8 : Byte)
  | cmpZeroPageX (d8 : Byte)
  | cmpAbsolute (d16 : Addr)
  | cmpAbsoluteX (d16 : Addr)
  | cmpAbsoluteY (d16 : Addr)
  | cmpIndexedIndirect (d8 : Byte)
  | cmpIndirectIndexed (d8 : Byte)
  | cpxImmediate (d8 : Byte)
  | cpxZeroPage (d8 : Byte)
  | cpxAbsolute (d16 : Addr)
  | cpyImmediate (d8 : Byte)
  | cpyZeroPage (d8 : Byte)
  | cpyAbsolute (d16 : Addr)
  | bpl (d8 : Byte)
  | bmi (d8 : Byte)
  | bvc (d8 : Byte)
  | bvs (d8 : Byte)
  | bcc (d8 : Byte)
  | bcs (d8 : Byte)
  | bne (d8 : Byte)
  | beq (d8 : Byte)
  | jmpAbsolute (d16 : Addr)
  | jmpIndirect (d16 : Addr)
  | pha
  | php
  | pla
  | plp
  | jsr (d16 : Addr)
  | rts
  | rti
  | clc
  | sec
  | cli
  | sei
  | cld
  | sed
  | clv
  | brk
  | nop
  deriving DecidableEq, Repr

/-- The tagged variant {instruction kind, addressing mode} of R84, with the operand bytes. -/
structure Form where
  mnemonic : Mnemonic
  operand : Operand
  deriving DecidableEq, Repr

/-- The mnemonic and the operand that a constructor stands for (R86). -/
def Instr.form : Instr → Form
  | .tax => ⟨.TAX, .implied⟩
  | .tay => ⟨.TAY, .implied⟩
  | .txa => ⟨.TXA, .implied⟩
  | .tya => ⟨.TYA, .implied⟩
  | .tsx => ⟨.TSX, .implied⟩
  | .txs => ⟨.TXS, .implied⟩
  | .ldaImmediate d8 => ⟨.LDA, .immediate d8⟩
  | .ldaZeroPage d8 => ⟨.LDA, .memory (.zeroPage d8)⟩
  | .ldaZeroPageX d8 => ⟨.LDA, .memory (.zeroPageX d8)⟩
  | .ldaAbsolute d16 => ⟨.LDA, .memory (.absolute d16)⟩
  | .ldaAbsoluteX d16 => ⟨.LDA, .memory (.absoluteX d16)⟩
  | .ldaAbsoluteY d16 => ⟨.LDA, .memory (.absoluteY d16)⟩
  | .ldaIndexedIndirect d8 => ⟨.LDA, .memory (.indexedIndirect d8)⟩
  | .ldaIndirectIndexed d8 => ⟨.LDA, .memory (.indirectIndexed d8)⟩
  | .ldxImmediate d8 => ⟨.LDX, .immediate d8⟩
  | .ldxZeroPage d8 => ⟨.LDX, .memory (.zeroPage d8)⟩
  | .ldxZeroPageY d8 => ⟨.LDX, .memory (.zeroPageY d8)⟩
  | .ldxAbsolute d16 => ⟨.LDX, .memory (.absolute d16)⟩
  | .ldxAbsoluteY d16 => ⟨.LDX, .memory (.absoluteY d16)⟩
  | .ldyImmediate d8 => ⟨.LDY, .immediate d8⟩
  | .ldyZeroPage d8 => ⟨.LDY, .memory (.zeroPage d8)⟩
  | .ldyZeroPageX d8 => ⟨.LDY, .memory (.zeroPageX d8)⟩
  | .ldyAbsolute d16 => ⟨.LDY, .memory (.absolute d16)⟩
  | .ldyAbsoluteX d16 => ⟨.LDY, .memory (.absoluteX d16)⟩
  | .staZeroPage d8 => ⟨.STA, .memory (.zeroPage d8)⟩
  | .staZeroPageX d8 => ⟨.STA, .memory (.zeroPageX d8)⟩
  | .staAbsolute d16 => ⟨.STA, .memory (.absolute d16)⟩
  | .staAbsoluteX d16 => ⟨.STA, .memory (.absoluteX d16)⟩
  | .staAbsoluteY d16 => ⟨.STA, .memory (.absoluteY d16)⟩
  | .staIndexedIndirect d8 => ⟨.STA, .memory (.indexedIndirect d8)⟩
  | .staIndirectIndexed d8 => ⟨.STA, .memory (.indirectIndexed d8)⟩
  | .stxZeroPage d8 => ⟨.STX, .memory (.zeroPage d8)⟩
  | .stxZeroPageY d8 => ⟨.STX, .memory (.zeroPageY d8)⟩
  | .stxAbsolute d16 => ⟨.STX, .memory (.absolute d16)⟩
  | .styZeroPage d8 => ⟨.STY, .memory (.zeroPage d8)⟩
  | .styZeroPageX d8 => ⟨.STY, .memory (.zeroPageX d8)⟩
  | .styAbsolute d16 => ⟨.STY, .memory (.absolute d16)⟩
  | .adcImmediate d8 => ⟨.ADC, .immediate d8⟩
  | .adcZeroPage d8 => ⟨.ADC, .memory (.zeroPage d8)⟩
  | .adcZeroPageX d8 => ⟨.ADC, .memory (.zeroPageX d8)⟩
  | .adcAbsolute d16 => ⟨.ADC, .memory (.absolute d16)⟩
  | .adcAbsoluteX d16 => ⟨.ADC, .memory (.absoluteX d16)⟩
  | .adcAbsoluteY d16 => ⟨.ADC, .memory (.absoluteY d16)⟩
  | .adcIndexedIndirect d8 => ⟨.ADC, .memory (.indexedIndirect d8)⟩
  | .adcIndirectIndexed d8 => ⟨.ADC, .memory (.indirectIndexed d8)⟩
  | .sbcImmediate d8 => ⟨.SBC, .immediate d8⟩
  | .sbcZeroPage d8 => ⟨.SBC, .memory (.zeroPage d8)⟩
  | .sbcZeroPageX d8 => ⟨.SBC, .memory (.zeroPageX d8)⟩
  | .sbcAbsolute d16 => ⟨.SBC, .memory (.absolute d16)⟩
  | .sbcAbsoluteX d16 => ⟨.SBC, .memory (.absoluteX d16)⟩
  | .sbcAbsoluteY d16 => ⟨.SBC, .memory (.absoluteY d16)⟩
  | .sbcIndexedIndirect d8 => ⟨.SBC, .memory (.indexedIndirect d8)⟩
  | .sbcIndirectIndexed d8 => ⟨.SBC, .memory (.indirectIndexed d8)⟩
  | .andImmediate d8 => ⟨.AND, .immediate d8⟩
  | .andZeroPage d8 => ⟨.AND, .memory (.zeroPage d8)⟩
  | .andZeroPageX d8 => ⟨.AND, .memory (.zeroPageX d8)⟩
  | .andAbsolute d16 => ⟨.AND, .memory (.absolute d16)⟩
  | .andAbsoluteX d16 => ⟨.AND, .memory (.absoluteX d16)⟩
  | .andAbsoluteY d16 => ⟨.AND, .memory (.absoluteY d16)⟩
  | .andIndexedIndirect d8 => ⟨.AND, .memory (.indexedIndirect d8)⟩
  | .andIndirectIndexed d8 => ⟨.AND, .memory (.indirectIndexed d8)⟩
  | .oraImmediate d8 => ⟨.ORA, .immediate d8⟩
  | .oraZeroPage d8 => ⟨.ORA, .memory (.zeroPage d8)⟩
  | .oraZeroPageX d8 => ⟨.ORA, .memory (.zeroPageX d8)⟩
  | .oraAbsolute d16 => ⟨.ORA, .memory (.absolute d16)⟩
  | .oraAbsoluteX d16 => ⟨.ORA, .memory (.absoluteX d16)⟩
  | .oraAbsoluteY d16 => ⟨.ORA, .memory (.absoluteY d16)⟩
  | .oraIndexedIndirect d8 => ⟨.ORA, .memory (.indexedIndirect d8)⟩
  | .oraIndirectIndexed d8 => ⟨.ORA, .memory (.indirectIndexed d8)⟩
  | .eorImmediate d8 => ⟨.EOR, .immediate d8⟩
  | .eorZeroPage d8 => ⟨.EOR, .memory (.zeroPage d8)⟩
  | .eorZeroPageX d8 => ⟨.EOR, .memory (.zeroPageX d8)⟩
  | .eorAbsolute d16 => ⟨.EOR, .memory (.absolute d16)⟩
  | .eorAbsoluteX d16 => ⟨.EOR, .memory (.absoluteX d16)⟩
  | .eorAbsoluteY d16 => ⟨.EOR, .memory (.absoluteY d16)⟩
  | .eorIndexedIndirect d8 => ⟨.EOR, .memory (.indexedIndirect d8)⟩
  | .eorIndirectIndexed d8 => ⟨.EOR, .memory (.indirectIndexed d8)⟩
  | .bitZeroPage d8 => ⟨.BIT, .memory (.zeroPage d8)⟩
  | .bitAbsolute d16 => ⟨.BIT, .memory (.absolute d16)⟩
  | .aslAccumulator => ⟨.ASL, .accumulator⟩
  | .aslZeroPage d8 => ⟨.ASL, .memory (.zeroPage d8)⟩
  | .aslZeroPageX d8 => ⟨.ASL, .memory (.zeroPageX d8)⟩
  | .aslAbsolute d16 => ⟨.ASL, .memory (.absolute d16)⟩
  | .aslAbsoluteX d16 => ⟨.ASL, .memory (.absoluteX d16)⟩
  | .lsrAccumulator => ⟨.LSR, .accumulator⟩
  | .lsrZeroPage d8 => ⟨.LSR, .memory (.zeroPage d8)⟩
  | .lsrZeroPageX d8 => ⟨.LSR, .memory (.zeroPageX d8)⟩
  | .lsrAbsolute d16 => ⟨.LSR, .memory (.absolute d16)⟩
  | .lsrAbsoluteX d16 => ⟨.LSR, .memory (.absoluteX d16)⟩
  | .rolAccumulator => ⟨.ROL, .accumulator⟩
  | .rolZeroPage d8 => ⟨.ROL, .memory (.zeroPage d8)⟩
  | .rolZeroPageX d8 => ⟨.ROL, .memory (.zeroPageX d8)⟩
  | .rolAbsolute d16 => ⟨.ROL, .memory (.absolute d16)⟩
  | .rolAbsoluteX d16 => ⟨.ROL, .memory (.absoluteX d16)⟩
  | .rorAccumulator => ⟨.ROR, .accumulator⟩
  | .rorZeroPage d8 => ⟨.ROR, .memory (.zeroPage d8)⟩
  | .rorZeroPageX d8 => ⟨.ROR, .memory (.zeroPageX d8)⟩
  | .rorAbsolute d16 => ⟨.ROR, .memory (.absolute d16)⟩
  | .rorAbsoluteX d16 => ⟨.ROR, .memory (.absoluteX d16)⟩
  | .incZeroPage d8 => ⟨.INC, .memory (.zeroPage d8)⟩
  | .incZeroPageX d8 => ⟨.INC, .memory (.zeroPageX d8)⟩
  | .incAbsolute d16 => ⟨.INC, .memory (.absolute d16)⟩
  | .incAbsoluteX d16 => ⟨.INC, .memory (.absoluteX d16)⟩
  | .decZeroPage d8 => ⟨.DEC, .memory (.zeroPage d8)⟩
  | .decZeroPageX d8 => ⟨.DEC, .memory (.zeroPageX d8)⟩
  | .decAbsolute d16 => ⟨.DEC, .memory (.absolute d16)⟩
  | .decAbsoluteX d16 => ⟨.DEC, .memory (.absoluteX d16)⟩
  | .inx => ⟨.INX, .implied⟩
  | .iny => ⟨.INY, .implied⟩
  | .dex => ⟨.DEX, .implied⟩
  | .dey => ⟨.DEY, .implied⟩
  | .cmpImmediate d8 => ⟨.CMP, .immediate d8⟩
  | .cmpZeroPage d8 => ⟨.CMP, .memory (.zeroPage d8)⟩
  | .cmpZeroPageX d8 => ⟨.CMP, .memory (.zeroPageX d8)⟩
  | .cmpAbsolute d16 => ⟨.CMP, .memory (.absolute d16)⟩
  | .cmpAbsoluteX d16 => ⟨.CMP, .memory (.absoluteX d16)⟩
  | .cmpAbsoluteY d16 => ⟨.CMP, .memory (.absoluteY d16)⟩
  | .cmpIndexedIndirect d8 => ⟨.CMP, .memory (.indexedIndirect d8)⟩
  | .cmpIndirectIndexed d8 => ⟨.CMP, .memory (.indirectIndexed d8)⟩
  | .cpxImmediate d8 => ⟨.CPX, .immediate d8⟩
  | .cpxZeroPage d8 => ⟨.CPX, .memory (.zeroPage d8)⟩
  | .cpxAbsolute d16 => ⟨.CPX, .memory (.absolute d16)⟩
  | .cpyImmediate d8 => ⟨.CPY, .immediate d8⟩
  | .cpyZeroPage d8 => ⟨.CPY, .memory (.zeroPage d8)⟩
  | .cpyAbsolute d16 => ⟨.CPY, .memory (.absolute d16)⟩
  | .bpl d8 => ⟨.BPL, .relative d8⟩
  | .bmi d8 => ⟨.BMI, .relative d8⟩
  | .bvc d8 => ⟨.BVC, .relative d8⟩
  | .bvs d8 => ⟨.BVS, .relative d8⟩
  | .bcc d8 => ⟨.BCC, .relative d8⟩
  | .bcs d8 => ⟨.BCS, .relative d8⟩
  | .bne d8 => ⟨.BNE, .relative d8⟩
  | .beq d8 => ⟨.BEQ, .relative d8⟩
  | .jmpAbsolute d16 => ⟨.JMP, .memory (.absolute d16)⟩
  | .jmpIndirect d16 => ⟨.JMP, .indirect d16⟩
  | .pha => ⟨.PHA, .implied⟩
  | .php => ⟨.PHP, .implied⟩
  | .pla => ⟨.PLA, .implied⟩
  | .plp => ⟨.PLP, .implied⟩
  | .jsr d16 => ⟨.JSR, .memory (.absolute d16)⟩
  | .rts => ⟨.RTS, .implied⟩
  | .rti => ⟨.RTI, .implied⟩
  | .clc => ⟨.CLC, .implied⟩
  | .sec => ⟨.SEC, .implied⟩
  | .cli => ⟨.CLI, .implied⟩
  | .sei => ⟨.SEI, .implied⟩
  | .cld => ⟨.CLD, .implied⟩
  | .sed => ⟨.SED, .implied⟩
  | .clv => ⟨.CLV, .implied⟩
  | .brk => ⟨.BRK, .implied⟩
  | .nop => ⟨.NOP, .implied⟩

def Instr.mnemonic (i : Instr) : Mnemonic := i.form.mnemonic

def Instr.operand (i : Instr) : Operand := i.form.operand

def Instr.mode (i : Instr) : Mode := i.operand.mode

end Sys2Proof
end

