-- ==== Sys2Proof/WellFormed.lean ====
section
/-! DEFINITION. Which (mnemonic, mode) pairs exist (the mode lists of 41 to 49, the non-empty cells of R86). A Form may pair any
mnemonic with any operand; the one check refuses the pairs the table leaves empty. Operand widths are checked by the types
(d8 is 8 bits, d16 is 16 bits), and every term of Instr has a well-formed form. -/

namespace Sys2Proof

/-- The modes a mnemonic has (R121 to R219, column by column in R86). -/
def Mnemonic.modes : Mnemonic → List Mode
  | .TAX | .TAY | .TXA | .TYA | .TSX | .TXS | .INX | .INY | .DEX | .DEY | .PHA | .PHP | .PLA | .PLP | .RTS | .RTI | .CLC | .SEC | .CLI | .SEI | .CLD | .SED | .CLV | .BRK | .NOP =>
    [.implied]
  | .LDA | .ADC | .SBC | .AND | .ORA | .EOR | .CMP =>
    [.immediate, .zeroPage, .zeroPageX, .absolute, .absoluteX, .absoluteY, .indexedIndirect, .indirectIndexed]
  | .LDX =>
    [.immediate, .zeroPage, .zeroPageY, .absolute, .absoluteY]
  | .LDY =>
    [.immediate, .zeroPage, .zeroPageX, .absolute, .absoluteX]
  | .STA =>
    [.zeroPage, .zeroPageX, .absolute, .absoluteX, .absoluteY, .indexedIndirect, .indirectIndexed]
  | .STX =>
    [.zeroPage, .zeroPageY, .absolute]
  | .STY =>
    [.zeroPage, .zeroPageX, .absolute]
  | .BIT =>
    [.zeroPage, .absolute]
  | .ASL | .LSR | .ROL | .ROR =>
    [.accumulator, .zeroPage, .zeroPageX, .absolute, .absoluteX]
  | .INC | .DEC =>
    [.zeroPage, .zeroPageX, .absolute, .absoluteX]
  | .CPX | .CPY =>
    [.immediate, .zeroPage, .absolute]
  | .BPL | .BMI | .BVC | .BVS | .BCC | .BCS | .BNE | .BEQ =>
    [.relative]
  | .JMP =>
    [.absolute, .indirect]
  | .JSR =>
    [.absolute]

/-- The check: the mnemonic has the mode (R86: "an empty cell means the combination does not exist"). -/
def Form.wellFormed (f : Form) : Bool := f.mnemonic.modes.contains f.operand.mode

def Instr.wellFormed (i : Instr) : Bool := i.form.wellFormed

end Sys2Proof
end

