-- ==== Sys2Proof/Decode.lean ====
section
/-! DEFINITION. The dispatcher over all 256 opcode values (30_encoding.md R84, R87), the decoder over any bytes, and after it the
encoder (R81, R86). The dispatcher is written from the map by opcode value (R87), the encoder from the map by mnemonic (R86). -/

namespace Sys2Proof

/-- What the dispatcher knows from the opcode byte alone: the instruction, still without the operand its format has (R85). -/
inductive Entry where
  | noOperand (i : Instr)
  | byteOperand (mk : Byte → Instr)
  | wordOperand (mk : Addr → Instr)

/-- The dispatcher of R84 by opcode value (R87); none is `Invalid`, for the 105 values of R88. -/
def dispatcher (op : Byte) : Option Entry :=
  match op.toNat with
  | 0x00 => some (.noOperand .brk)
  | 0x01 => some (.byteOperand .oraIndexedIndirect)
  | 0x05 => some (.byteOperand .oraZeroPage)
  | 0x06 => some (.byteOperand .aslZeroPage)
  | 0x08 => some (.noOperand .php)
  | 0x09 => some (.byteOperand .oraImmediate)
  | 0x0A => some (.noOperand .aslAccumulator)
  | 0x0D => some (.wordOperand .oraAbsolute)
  | 0x0E => some (.wordOperand .aslAbsolute)
  | 0x10 => some (.byteOperand .bpl)
  | 0x11 => some (.byteOperand .oraIndirectIndexed)
  | 0x15 => some (.byteOperand .oraZeroPageX)
  | 0x16 => some (.byteOperand .aslZeroPageX)
  | 0x18 => some (.noOperand .clc)
  | 0x19 => some (.wordOperand .oraAbsoluteY)
  | 0x1D => some (.wordOperand .oraAbsoluteX)
  | 0x1E => some (.wordOperand .aslAbsoluteX)
  | 0x20 => some (.wordOperand .jsr)
  | 0x21 => some (.byteOperand .andIndexedIndirect)
  | 0x24 => some (.byteOperand .bitZeroPage)
  | 0x25 => some (.byteOperand .andZeroPage)
  | 0x26 => some (.byteOperand .rolZeroPage)
  | 0x28 => some (.noOperand .plp)
  | 0x29 => some (.byteOperand .andImmediate)
  | 0x2A => some (.noOperand .rolAccumulator)
  | 0x2C => some (.wordOperand .bitAbsolute)
  | 0x2D => some (.wordOperand .andAbsolute)
  | 0x2E => some (.wordOperand .rolAbsolute)
  | 0x30 => some (.byteOperand .bmi)
  | 0x31 => some (.byteOperand .andIndirectIndexed)
  | 0x35 => some (.byteOperand .andZeroPageX)
  | 0x36 => some (.byteOperand .rolZeroPageX)
  | 0x38 => some (.noOperand .sec)
  | 0x39 => some (.wordOperand .andAbsoluteY)
  | 0x3D => some (.wordOperand .andAbsoluteX)
  | 0x3E => some (.wordOperand .rolAbsoluteX)
  | 0x40 => some (.noOperand .rti)
  | 0x41 => some (.byteOperand .eorIndexedIndirect)
  | 0x45 => some (.byteOperand .eorZeroPage)
  | 0x46 => some (.byteOperand .lsrZeroPage)
  | 0x48 => some (.noOperand .pha)
  | 0x49 => some (.byteOperand .eorImmediate)
  | 0x4A => some (.noOperand .lsrAccumulator)
  | 0x4C => some (.wordOperand .jmpAbsolute)
  | 0x4D => some (.wordOperand .eorAbsolute)
  | 0x4E => some (.wordOperand .lsrAbsolute)
  | 0x50 => some (.byteOperand .bvc)
  | 0x51 => some (.byteOperand .eorIndirectIndexed)
  | 0x55 => some (.byteOperand .eorZeroPageX)
  | 0x56 => some (.byteOperand .lsrZeroPageX)
  | 0x58 => some (.noOperand .cli)
  | 0x59 => some (.wordOperand .eorAbsoluteY)
  | 0x5D => some (.wordOperand .eorAbsoluteX)
  | 0x5E => some (.wordOperand .lsrAbsoluteX)
  | 0x60 => some (.noOperand .rts)
  | 0x61 => some (.byteOperand .adcIndexedIndirect)
  | 0x65 => some (.byteOperand .adcZeroPage)
  | 0x66 => some (.byteOperand .rorZeroPage)
  | 0x68 => some (.noOperand .pla)
  | 0x69 => some (.byteOperand .adcImmediate)
  | 0x6A => some (.noOperand .rorAccumulator)
  | 0x6C => some (.wordOperand .jmpIndirect)
  | 0x6D => some (.wordOperand .adcAbsolute)
  | 0x6E => some (.wordOperand .rorAbsolute)
  | 0x70 => some (.byteOperand .bvs)
  | 0x71 => some (.byteOperand .adcIndirectIndexed)
  | 0x75 => some (.byteOperand .adcZeroPageX)
  | 0x76 => some (.byteOperand .rorZeroPageX)
  | 0x78 => some (.noOperand .sei)
  | 0x79 => some (.wordOperand .adcAbsoluteY)
  | 0x7D => some (.wordOperand .adcAbsoluteX)
  | 0x7E => some (.wordOperand .rorAbsoluteX)
  | 0x81 => some (.byteOperand .staIndexedIndirect)
  | 0x84 => some (.byteOperand .styZeroPage)
  | 0x85 => some (.byteOperand .staZeroPage)
  | 0x86 => some (.byteOperand .stxZeroPage)
  | 0x88 => some (.noOperand .dey)
  | 0x8A => some (.noOperand .txa)
  | 0x8C => some (.wordOperand .styAbsolute)
  | 0x8D => some (.wordOperand .staAbsolute)
  | 0x8E => some (.wordOperand .stxAbsolute)
  | 0x90 => some (.byteOperand .bcc)
  | 0x91 => some (.byteOperand .staIndirectIndexed)
  | 0x94 => some (.byteOperand .styZeroPageX)
  | 0x95 => some (.byteOperand .staZeroPageX)
  | 0x96 => some (.byteOperand .stxZeroPageY)
  | 0x98 => some (.noOperand .tya)
  | 0x99 => some (.wordOperand .staAbsoluteY)
  | 0x9A => some (.noOperand .txs)
  | 0x9D => some (.wordOperand .staAbsoluteX)
  | 0xA0 => some (.byteOperand .ldyImmediate)
  | 0xA1 => some (.byteOperand .ldaIndexedIndirect)
  | 0xA2 => some (.byteOperand .ldxImmediate)
  | 0xA4 => some (.byteOperand .ldyZeroPage)
  | 0xA5 => some (.byteOperand .ldaZeroPage)
  | 0xA6 => some (.byteOperand .ldxZeroPage)
  | 0xA8 => some (.noOperand .tay)
  | 0xA9 => some (.byteOperand .ldaImmediate)
  | 0xAA => some (.noOperand .tax)
  | 0xAC => some (.wordOperand .ldyAbsolute)
  | 0xAD => some (.wordOperand .ldaAbsolute)
  | 0xAE => some (.wordOperand .ldxAbsolute)
  | 0xB0 => some (.byteOperand .bcs)
  | 0xB1 => some (.byteOperand .ldaIndirectIndexed)
  | 0xB4 => some (.byteOperand .ldyZeroPageX)
  | 0xB5 => some (.byteOperand .ldaZeroPageX)
  | 0xB6 => some (.byteOperand .ldxZeroPageY)
  | 0xB8 => some (.noOperand .clv)
  | 0xB9 => some (.wordOperand .ldaAbsoluteY)
  | 0xBA => some (.noOperand .tsx)
  | 0xBC => some (.wordOperand .ldyAbsoluteX)
  | 0xBD => some (.wordOperand .ldaAbsoluteX)
  | 0xBE => some (.wordOperand .ldxAbsoluteY)
  | 0xC0 => some (.byteOperand .cpyImmediate)
  | 0xC1 => some (.byteOperand .cmpIndexedIndirect)
  | 0xC4 => some (.byteOperand .cpyZeroPage)
  | 0xC5 => some (.byteOperand .cmpZeroPage)
  | 0xC6 => some (.byteOperand .decZeroPage)
  | 0xC8 => some (.noOperand .iny)
  | 0xC9 => some (.byteOperand .cmpImmediate)
  | 0xCA => some (.noOperand .dex)
  | 0xCC => some (.wordOperand .cpyAbsolute)
  | 0xCD => some (.wordOperand .cmpAbsolute)
  | 0xCE => some (.wordOperand .decAbsolute)
  | 0xD0 => some (.byteOperand .bne)
  | 0xD1 => some (.byteOperand .cmpIndirectIndexed)
  | 0xD5 => some (.byteOperand .cmpZeroPageX)
  | 0xD6 => some (.byteOperand .decZeroPageX)
  | 0xD8 => some (.noOperand .cld)
  | 0xD9 => some (.wordOperand .cmpAbsoluteY)
  | 0xDD => some (.wordOperand .cmpAbsoluteX)
  | 0xDE => some (.wordOperand .decAbsoluteX)
  | 0xE0 => some (.byteOperand .cpxImmediate)
  | 0xE1 => some (.byteOperand .sbcIndexedIndirect)
  | 0xE4 => some (.byteOperand .cpxZeroPage)
  | 0xE5 => some (.byteOperand .sbcZeroPage)
  | 0xE6 => some (.byteOperand .incZeroPage)
  | 0xE8 => some (.noOperand .inx)
  | 0xE9 => some (.byteOperand .sbcImmediate)
  | 0xEA => some (.noOperand .nop)
  | 0xEC => some (.wordOperand .cpxAbsolute)
  | 0xED => some (.wordOperand .sbcAbsolute)
  | 0xEE => some (.wordOperand .incAbsolute)
  | 0xF0 => some (.byteOperand .beq)
  | 0xF1 => some (.byteOperand .sbcIndirectIndexed)
  | 0xF5 => some (.byteOperand .sbcZeroPageX)
  | 0xF6 => some (.byteOperand .incZeroPageX)
  | 0xF8 => some (.noOperand .sed)
  | 0xF9 => some (.wordOperand .sbcAbsoluteY)
  | 0xFD => some (.wordOperand .sbcAbsoluteX)
  | 0xFE => some (.wordOperand .incAbsoluteX)
  | _ => none

/-- The instruction of an entry with an operand of zero: its mnemonic and mode are those of the opcode alone. -/
def Entry.sample : Entry → Instr
  | .noOperand i => i
  | .byteOperand mk => mk 0
  | .wordOperand mk => mk 0

/-- How many operand bytes follow the opcode (R82, R85). -/
def Entry.operandBytes : Entry → Nat
  | .noOperand _ => 0
  | .byteOperand _ => 1
  | .wordOperand _ => 2

/-- `Decode : byte -> Valid(mnemonic, mode) | Invalid` of R84. -/
def decodeOpcode (op : Byte) : Option (Mnemonic × Mode) :=
  (dispatcher op).map fun e => (e.sample.mnemonic, e.sample.mode)

/-- Why the decoder gives no instruction. -/
inductive Reject where
  /-- There is no opcode byte. -/
  | noBytes
  /-- The opcode byte is one of the 105 `Invalid` values of R88. -/
  | invalidOpcode (op : Byte)
  /-- The bytes end before the operand does. -/
  | truncated (op : Byte)
  deriving DecidableEq, Repr

/-- The decoder, total on any bytes: the first instruction and the bytes after it, or the reason there is none (R80 to R85). -/
def decode : List Byte → Except Reject (Instr × List Byte)
  | [] => .error .noBytes
  | op :: rest =>
    match dispatcher op, rest with
    | none, _ => .error (.invalidOpcode op)
    | some (.noOperand i), rest => .ok (i, rest)
    | some (.byteOperand mk), d :: rest => .ok (mk d, rest)
    | some (.wordOperand mk), lo :: hi :: rest => .ok (mk (joinBytes hi lo), rest)
    | some (.byteOperand _), [] => .error (.truncated op)
    | some (.wordOperand _), _ => .error (.truncated op)

/-- The opcode byte of each (mnemonic, mode) pair, by mnemonic (R86). -/
def Instr.opcode : Instr → Byte
  | .tax => 0xAA
  | .tay => 0xA8
  | .txa => 0x8A
  | .tya => 0x98
  | .tsx => 0xBA
  | .txs => 0x9A
  | .ldaImmediate _ => 0xA9
  | .ldaZeroPage _ => 0xA5
  | .ldaZeroPageX _ => 0xB5
  | .ldaAbsolute _ => 0xAD
  | .ldaAbsoluteX _ => 0xBD
  | .ldaAbsoluteY _ => 0xB9
  | .ldaIndexedIndirect _ => 0xA1
  | .ldaIndirectIndexed _ => 0xB1
  | .ldxImmediate _ => 0xA2
  | .ldxZeroPage _ => 0xA6
  | .ldxZeroPageY _ => 0xB6
  | .ldxAbsolute _ => 0xAE
  | .ldxAbsoluteY _ => 0xBE
  | .ldyImmediate _ => 0xA0
  | .ldyZeroPage _ => 0xA4
  | .ldyZeroPageX _ => 0xB4
  | .ldyAbsolute _ => 0xAC
  | .ldyAbsoluteX _ => 0xBC
  | .staZeroPage _ => 0x85
  | .staZeroPageX _ => 0x95
  | .staAbsolute _ => 0x8D
  | .staAbsoluteX _ => 0x9D
  | .staAbsoluteY _ => 0x99
  | .staIndexedIndirect _ => 0x81
  | .staIndirectIndexed _ => 0x91
  | .stxZeroPage _ => 0x86
  | .stxZeroPageY _ => 0x96
  | .stxAbsolute _ => 0x8E
  | .styZeroPage _ => 0x84
  | .styZeroPageX _ => 0x94
  | .styAbsolute _ => 0x8C
  | .adcImmediate _ => 0x69
  | .adcZeroPage _ => 0x65
  | .adcZeroPageX _ => 0x75
  | .adcAbsolute _ => 0x6D
  | .adcAbsoluteX _ => 0x7D
  | .adcAbsoluteY _ => 0x79
  | .adcIndexedIndirect _ => 0x61
  | .adcIndirectIndexed _ => 0x71
  | .sbcImmediate _ => 0xE9
  | .sbcZeroPage _ => 0xE5
  | .sbcZeroPageX _ => 0xF5
  | .sbcAbsolute _ => 0xED
  | .sbcAbsoluteX _ => 0xFD
  | .sbcAbsoluteY _ => 0xF9
  | .sbcIndexedIndirect _ => 0xE1
  | .sbcIndirectIndexed _ => 0xF1
  | .andImmediate _ => 0x29
  | .andZeroPage _ => 0x25
  | .andZeroPageX _ => 0x35
  | .andAbsolute _ => 0x2D
  | .andAbsoluteX _ => 0x3D
  | .andAbsoluteY _ => 0x39
  | .andIndexedIndirect _ => 0x21
  | .andIndirectIndexed _ => 0x31
  | .oraImmediate _ => 0x09
  | .oraZeroPage _ => 0x05
  | .oraZeroPageX _ => 0x15
  | .oraAbsolute _ => 0x0D
  | .oraAbsoluteX _ => 0x1D
  | .oraAbsoluteY _ => 0x19
  | .oraIndexedIndirect _ => 0x01
  | .oraIndirectIndexed _ => 0x11
  | .eorImmediate _ => 0x49
  | .eorZeroPage _ => 0x45
  | .eorZeroPageX _ => 0x55
  | .eorAbsolute _ => 0x4D
  | .eorAbsoluteX _ => 0x5D
  | .eorAbsoluteY _ => 0x59
  | .eorIndexedIndirect _ => 0x41
  | .eorIndirectIndexed _ => 0x51
  | .bitZeroPage _ => 0x24
  | .bitAbsolute _ => 0x2C
  | .aslAccumulator => 0x0A
  | .aslZeroPage _ => 0x06
  | .aslZeroPageX _ => 0x16
  | .aslAbsolute _ => 0x0E
  | .aslAbsoluteX _ => 0x1E
  | .lsrAccumulator => 0x4A
  | .lsrZeroPage _ => 0x46
  | .lsrZeroPageX _ => 0x56
  | .lsrAbsolute _ => 0x4E
  | .lsrAbsoluteX _ => 0x5E
  | .rolAccumulator => 0x2A
  | .rolZeroPage _ => 0x26
  | .rolZeroPageX _ => 0x36
  | .rolAbsolute _ => 0x2E
  | .rolAbsoluteX _ => 0x3E
  | .rorAccumulator => 0x6A
  | .rorZeroPage _ => 0x66
  | .rorZeroPageX _ => 0x76
  | .rorAbsolute _ => 0x6E
  | .rorAbsoluteX _ => 0x7E
  | .incZeroPage _ => 0xE6
  | .incZeroPageX _ => 0xF6
  | .incAbsolute _ => 0xEE
  | .incAbsoluteX _ => 0xFE
  | .decZeroPage _ => 0xC6
  | .decZeroPageX _ => 0xD6
  | .decAbsolute _ => 0xCE
  | .decAbsoluteX _ => 0xDE
  | .inx => 0xE8
  | .iny => 0xC8
  | .dex => 0xCA
  | .dey => 0x88
  | .cmpImmediate _ => 0xC9
  | .cmpZeroPage _ => 0xC5
  | .cmpZeroPageX _ => 0xD5
  | .cmpAbsolute _ => 0xCD
  | .cmpAbsoluteX _ => 0xDD
  | .cmpAbsoluteY _ => 0xD9
  | .cmpIndexedIndirect _ => 0xC1
  | .cmpIndirectIndexed _ => 0xD1
  | .cpxImmediate _ => 0xE0
  | .cpxZeroPage _ => 0xE4
  | .cpxAbsolute _ => 0xEC
  | .cpyImmediate _ => 0xC0
  | .cpyZeroPage _ => 0xC4
  | .cpyAbsolute _ => 0xCC
  | .bpl _ => 0x10
  | .bmi _ => 0x30
  | .bvc _ => 0x50
  | .bvs _ => 0x70
  | .bcc _ => 0x90
  | .bcs _ => 0xB0
  | .bne _ => 0xD0
  | .beq _ => 0xF0
  | .jmpAbsolute _ => 0x4C
  | .jmpIndirect _ => 0x6C
  | .pha => 0x48
  | .php => 0x08
  | .pla => 0x68
  | .plp => 0x28
  | .jsr _ => 0x20
  | .rts => 0x60
  | .rti => 0x40
  | .clc => 0x18
  | .sec => 0x38
  | .cli => 0x58
  | .sei => 0x78
  | .cld => 0xD8
  | .sed => 0xF8
  | .clv => 0xB8
  | .brk => 0x00
  | .nop => 0xEA

def MemRef.bytes : MemRef → List Byte
  | .zeroPage d8 | .zeroPageX d8 | .zeroPageY d8 | .indexedIndirect d8 | .indirectIndexed d8 => [d8]
  | .absolute d16 | .absoluteX d16 | .absoluteY d16 => [lowByte d16, highByte d16]

/-- The operand bytes as they follow the opcode, a word low byte first (R81, R83). -/
def Operand.bytes : Operand → List Byte
  | .implied | .accumulator => []
  | .immediate d8 | .relative d8 => [d8]
  | .memory r => r.bytes
  | .indirect d16 => [lowByte d16, highByte d16]

/-- The bytes of an instruction in the order of their addresses (R81). -/
def encode (i : Instr) : List Byte := i.opcode :: i.operand.bytes

/-- An instruction's length in bytes (R80, R82). -/
def Instr.length (i : Instr) : Nat := (encode i).length

/-- The first three bytes (the longest instruction) of the number `w` whose bits above `nbits` are 0, lowest byte first. -/
def tableBytes (nbits w : Nat) : List Byte :=
  let v := w % 2 ^ nbits
  [BitVec.ofNat 8 v, BitVec.ofNat 8 (v / 256), BitVec.ofNat 8 (v / 65536)]

/-- What the decoder reads from an instruction whose bits are `w`, numbered as spec/opcode_table.json numbers them. -/
def decodeTableWord (nbits w : Nat) : Option Instr :=
  match decode (tableBytes nbits w) with
  | .ok (i, _) => some i
  | .error _ => none

end Sys2Proof
end

