-- ==== Sys2Proof/Config.lean ====
section
/-! DEFINITION. What lies outside the machine and is open to every claim: the host's random bytes and its SaveRAM image.
Both are free values: constants without a body, so that a claim holds whatever they are.
The four Boolean parameters of R8 stand in Machine/Params.lean. -/

namespace Sys2Proof

/-- The `n`-th byte that the injected `Rand()` capability returns (00_scope.md R9): a free draw, under no law.
DESIGN CHOICE (notes/assumptions/1.md): the draws are numbered, and State counts how many were taken. Safe. -/
opaque Config.randByte (n : Nat) : Byte

/-- Byte `off` of `SAVERAM_INIT` (00_scope.md R8, 20_memory.md R52): supplied by the host, so free.
DESIGN CHOICE (notes/assumptions/4.md). Safe. -/
opaque Config.saveRamInit (off : Nat) : Byte

end Sys2Proof
end

