-- ==== Sys2Proof/Machine/Memory.lean ====
section
/-! DEFINITION. Memory: the address map (20_memory.md R51 to R57, R62), the list of cells in its one canonical form, what an
unlisted address reads as, and the byte-wide read and write policy (R55, R56). -/

namespace Sys2Proof.Machine

/-- RAM, SaveRAM and ROM as one list of (address, byte) cells, addresses strictly rising (Memory.wf). -/
abbrev Memory := List Host.Cell

/-- The regions of the map (R62). -/
inductive Region where
  | ram
  | placeholder
  | unmapped
  | saveRam
  | rom
  deriving DecidableEq, Repr

/-- "Every address access is first masked to 16 bits" (R50, R55). -/
def maskAddr (addr : Nat) : Nat := addr % 0x10000

/-- The region of an address below 0x10000 (R62). -/
def region (a : Nat) : Region :=
  if a ≤ 0x1FFF then .ram
  else if a = 0x2000 then .placeholder
  else if a ≤ 0x5FFF then .unmapped
  else if a ≤ 0x7FFF then .saveRam
  else .rom

/-- Whether a backing array holds the address (R51 to R53). -/
def backed (a : Nat) : Bool :=
  match region a with
  | .ram | .saveRam => true
  | .rom => decide (a ≤ 0xFFFF)
  | .placeholder | .unmapped => false

/-- Whether a core write to the address is stored, and not discarded (R56). -/
def writable (a : Nat) : Bool :=
  match region a with
  | .ram | .saveRam => true
  | .placeholder | .unmapped | .rom => false

/-- The byte an unlisted address is KNOWN to read as. ROM the host has not supplied is blank, 0x00: DESIGN CHOICE
(notes/assumptions/5.md), unsafe. An unlisted byte of RAM or SaveRAM is a free value, so none is known
(notes/assumptions/3.md and 4.md), safe. -/
def Memory.blank (a : Nat) : Option Byte :=
  match region a with
  | .rom => some 0x00
  | .ram | .saveRam | .placeholder | .unmapped => none

/-- What an unlisted address reads as. RAM: its own power-on draw, `RAM[i] <- Rand()` (70_reset_and_hazards.md R260), draw
`ramDraw + i`. SaveRAM: `SAVERAM_INIT` (R52). ROM: blank. 0x2000: the next draw (R57). 0x2001 to 0x5FFF: 0x00 (R57). -/
def Memory.unlisted (ramDraw draws a : Nat) : Byte :=
  match region a with
  | .ram => Config.randByte (ramDraw + a)
  | .placeholder => Config.randByte draws
  | .unmapped => 0x00
  | .saveRam => Config.saveRamInit (a - 0x6000)
  | .rom => (Memory.blank a).getD 0x00

/-- The canonical form: addresses strictly rising, each in a backing array, no cell with the byte its address is known to
read as when unlisted. -/
abbrev Memory.wf (m : Memory) : Prop :=
  m.Pairwise (fun c d => c.1 < d.1) ∧ ∀ c ∈ m, backed c.1 = true ∧ Memory.blank c.1 ≠ some c.2

/-- The listed byte of an address, if it is listed. -/
def Memory.cell : Memory → Nat → Option Byte
  | [], _ => none
  | c :: m, a => if c.1 = a then some c.2 else Memory.cell m a

def Memory.insertCell : Memory → Nat → Byte → Memory
  | [], a, v => [(a, v)]
  | c :: m, a, v =>
    if a < c.1 then (a, v) :: c :: m
    else if a = c.1 then (a, v) :: m
    else c :: Memory.insertCell m a v

def Memory.eraseCell (m : Memory) (a : Nat) : Memory := m.filter fun c => c.1 ≠ a

/-- Put byte `v` at address `a` of the backing arrays, keeping the canonical form; an address no array holds is left alone.
This is the host's array accessor (60_exceptions.md R244); the core's write is Memory.write. -/
def Memory.store (m : Memory) (a : Nat) (v : Byte) : Memory :=
  if backed a then
    if Memory.blank a = some v then Memory.eraseCell m a else Memory.insertCell m a v
  else m

/-- `MemRead(addr, 1)` (R55): the byte alone; the draw a read of 0x2000 takes is counted by readByte (Ops.lean). -/
def Memory.byte (m : Memory) (ramDraw draws addr : Nat) : Byte :=
  let a := maskAddr addr
  if backed a then (Memory.cell m a).getD (Memory.unlisted ramDraw draws a)
  else Memory.unlisted ramDraw draws a

/-- `MemWrite(addr, 1, v)` (R56): stored in RAM and SaveRAM, silently discarded anywhere else. -/
def Memory.write (m : Memory) (addr : Nat) (v : Byte) : Memory :=
  let a := maskAddr addr
  if writable a then Memory.store m a v else m

/-- The cells outside RAM: what a power-on leaves of memory (R260: "SaveRAM and ROM are not touched"). -/
def Memory.withoutRam (m : Memory) : Memory := m.filter fun c => region c.1 ≠ .ram

end Sys2Proof.Machine
end

