-- ==== Sys2Proof/Machine/State.lean ====
section
/-! DEFINITION. The state of the core (10_state.md R20, R36 to R38), its value after power-on (R39, R260), the two reason types,
and one named update for each field. -/

namespace Sys2Proof.Machine

/-- `InvalidOpcode(op, addr)`: the offending opcode and the address it was fetched from (R37). -/
structure InvalidOpcode where
  opcode : Byte
  address : Addr
  deriving DecidableEq, Repr

/-- All the state the spec gives the machine (R38), and the model's own counters of free draws. -/
structure State where
  /-- Accumulator A (R20). -/
  a : Byte
  /-- Index register X (R20). -/
  x : Byte
  /-- Index register Y (R20). -/
  y : Byte
  /-- Stack pointer S, page-relative (R20, R23). -/
  sp : Byte
  /-- Status byte P (R27, R40). -/
  p : Byte
  /-- Program counter PC (R26). -/
  pc : Addr
  /-- `ready`: the run loop may continue (R36). -/
  ready : Bool
  /-- `fault`: none, or the latched InvalidOpcode report (R37). -/
  fault : Option InvalidOpcode
  /-- RAM, SaveRAM and the ROM image (R38; notes/assumptions/6.md). -/
  mem : Memory
  /-- The model's own: the index of the draw that filled RAM[0] at the last power-on (notes/assumptions/3.md). -/
  ramDraw : Nat
  /-- The model's own: the index of the next draw of `Rand()` (notes/assumptions/1.md). -/
  draws : Nat
  deriving DecidableEq, Repr

/-- Reasons to stop without a next state. There is none: the one exception of this hardware, InvalidOpcode, has its entry
described (60_exceptions.md R233) and is a next state with `fault` latched (notes/assumptions/8.md); a halted core steps to
itself (R232); "AddressOutOfRange" is never raised and "IllegalWrite" is a defined no-op (R234). Safe. -/
inductive Fault where
  deriving DecidableEq, Repr

/-- Reasons for having no meaning. -/
inductive Refusal where
  /-- Raised by an arm of exec whose instruction has no meaning yet, by its mnemonic; no arm raises it. Safe. -/
  | notModelled (mnemonic : String)
  deriving DecidableEq, Repr

/-- What a meaning answers. -/
abbrev Result := Host.Outcome State Fault Refusal

def State.setA (s : State) (v : Byte) : State := { s with a := v }
def State.setX (s : State) (v : Byte) : State := { s with x := v }
def State.setY (s : State) (v : Byte) : State := { s with y := v }
def State.setSp (s : State) (v : Byte) : State := { s with sp := v }
def State.setP (s : State) (v : Byte) : State := { s with p := v }
def State.setPc (s : State) (v : Addr) : State := { s with pc := v }
def State.setReady (s : State) (v : Bool) : State := { s with ready := v }
def State.setFault (s : State) (v : Option InvalidOpcode) : State := { s with fault := v }
def State.setMem (s : State) (v : Memory) : State := { s with mem := v }
def State.setRamDraw (s : State) (v : Nat) : State := { s with ramDraw := v }
def State.setDraws (s : State) (v : Nat) : State := { s with draws := v }

/-- The core after `PowerOn`, which ends with `Reset` (R39, R260, R262), with nothing loaded by the host. A, X, Y, S, P are the
draws 0 to 4, PC's own two draws 5 and 6 are overwritten by the reset vector, and RAM[i] is draw 7 + i (8192 of them), so the
next draw is 8199. No register is zero by choice: the spec says "never as zero" (notes/assumptions/2.md). -/
def State.reset : State where
  a := Config.randByte 0
  x := Config.randByte 1
  y := Config.randByte 2
  sp := Config.randByte 3
  p := Config.randByte 4
  pc := joinBytes (Memory.byte [] 7 8199 0xFFFD) (Memory.byte [] 7 8199 0xFFFC)
  ready := true
  fault := none
  mem := []
  ramDraw := 7
  draws := 8199

end Sys2Proof.Machine
end

