-- ==== Sys2Proof/Machine/Ops.lean ====
section
/-! DEFINITION. The named operations over memory, registers and the instruction stream (10_state.md R23 to R25, R32 to R35;
20_memory.md R55 to R58), and taking the one exception (60_exceptions.md R233) with the return from one beside it
(48_stack_subroutine.md R206). Each operation that reads answers the value and the state after the reads. -/

namespace Sys2Proof.Machine

/-- What `MemRead(addr, 1)` answers in this state (R55). At 0x2000 it is the draw the next read takes. -/
def State.byteAt (s : State) (addr : Nat) : Byte := Memory.byte s.mem s.ramDraw s.draws addr

/-- The draws one read of the address takes: 1 at the placeholder register, else 0 (R55, 00_scope.md R9). -/
def drawsOf (addr : Nat) : Nat := if region (maskAddr addr) = .placeholder then 1 else 0

/-- `MemRead(addr, 1)` (R55). -/
def readByte (addr : Nat) (s : State) : Byte × State := (s.byteAt addr, s.setDraws (s.draws + drawsOf addr))

/-- `MemWrite(addr, 1, v)` (R56). -/
def writeByte (addr : Nat) (v : Byte) (s : State) : State := s.setMem (Memory.write s.mem addr v)

/-- `{hi, lo}` of a byte read at `lo` and then a byte read at `hi`. -/
def readPair (lo hi : Nat) (s : State) : Addr × State :=
  let l := readByte lo s
  let h := readByte hi l.2
  (joinBytes h.1 l.1, h.2)

/-- `ReadWord(a)`: little-endian, low byte first, each address masked to 16 bits (R58). -/
def readWord (addr : Nat) (s : State) : Addr × State := readPair addr (addr + 1) s

/-- `Fetch8()` (R24). -/
def fetch8 (s : State) : Byte × State :=
  let r := readByte s.pc.toNat s
  (r.1, r.2.setPc (s.pc + 1))

/-- `n` bytes of the instruction stream, one `Fetch8()` each (R24, R25: low byte first). -/
def fetchBytes : Nat → State → List Byte × State
  | 0, s => ([], s)
  | n + 1, s =>
    let b := fetch8 s
    let bs := fetchBytes n b.2
    (b.1 :: bs.1, bs.2)

/-- The stack address `0x100 | S` (R23). -/
def stackAddr (sp : Byte) : Nat := 0x100 ||| sp.toNat

/-- `Push8(v)`: write, then decrement S (R32). -/
def push8 (v : Byte) (s : State) : State := (writeByte (stackAddr s.sp) v s).setSp (s.sp - 1)

/-- `Pull8()`: increment S, then read (R33). -/
def pull8 (s : State) : Byte × State := readByte (stackAddr (s.sp + 1)) (s.setSp (s.sp + 1))

/-- `Push16(v)`: high byte first (R34). -/
def push16 (v : Addr) (s : State) : State := push8 (lowByte v) (push8 (highByte v) s)

/-- `Pull16()`: low byte first (R35). -/
def pull16 (s : State) : Addr × State :=
  let lo := pull8 s
  let hi := pull8 lo.2
  (joinBytes hi.1 lo.1, hi.2)

/-- Write a register and set N and Z from the value: "every load/transfer/increment instruction calls
`updateNegativeAndZero` on its result" (R31, 41_transfer_load_store.md R120). -/
def writeRegNZ (set : State → Byte → State) (v : Byte) (s : State) : State := (set s v).setP (setNZ v s.p)

/-- `raise InvalidOpcode(op, pc0)`: PC back at the opcode, `ready` false, the report latched; nothing else changes (R233). -/
def takeInvalidOpcode (op : Byte) (pc0 : Addr) (s : State) : State :=
  ((s.setPc pc0).setReady false).setFault (some ⟨op, pc0⟩)

/-- The return from an exception, as RTI: all eight bits of P, then PC, both from the stack; no 1 is added (R206, R240). -/
def returnFromInterrupt (s : State) : State :=
  let p := pull8 s
  let pc := pull16 (p.2.setP p.1)
  pc.2.setPc pc.1

end Sys2Proof.Machine
end

