-- ==== Sys2Proof/Machine/Operands.lean ====
section
/-! DEFINITION. The addressing-mode resolver (40_addressing.md R100 to R115). The operand bytes are already fetched, so PC holds
the address of the next instruction. An effective address is a natural number, not yet masked: "masking happens at access time,
not resolution time" (R108). -/

namespace Sys2Proof.Machine

/-- Where the second byte of a zero-page pointer is: the next address, or the next of page 0 under `ZP_PTR_WRAP` (R111, R112). -/
def zpPointerHigh (wrap : Bool) (zp : Nat) : Nat := if wrap then (zp + 1) &&& 0xFF else zp + 1

/-- The word at a zero-page pointer, low byte first (R111, R112). -/
def readZpPointer (wrap : Bool) (zp : Nat) (s : State) : Addr × State := readPair zp (zpPointerHigh wrap zp) s

/-- `EA(m)` and the state after the mode's pointer reads (R104 to R109, R111, R112); `wrap` is `ZP_PTR_WRAP`. -/
def effectiveAddressWith (wrap : Bool) : MemRef → State → Nat × State
  | .zeroPage d8, s => (d8.toNat, s)
  | .zeroPageX d8, s => ((d8.toNat + s.x.toNat) &&& 0xFF, s)
  | .zeroPageY d8, s => ((d8.toNat + s.y.toNat) &&& 0xFF, s)
  | .absolute d16, s => (d16.toNat, s)
  | .absoluteX d16, s => (d16.toNat + s.x.toNat, s)
  | .absoluteY d16, s => (d16.toNat + s.y.toNat, s)
  | .indexedIndirect d8, s =>
    let ptr := readZpPointer wrap ((d8.toNat + s.x.toNat) &&& 0xFF) s
    (ptr.1.toNat, ptr.2)
  | .indirectIndexed d8, s =>
    let ptr := readZpPointer wrap d8.toNat s
    (ptr.1.toNat + s.y.toNat, ptr.2)

/-- `EA(m)` on this hardware (`ZP_PTR_WRAP` as Params.lean has it). -/
def effectiveAddress (r : MemRef) (s : State) : Nat × State := effectiveAddressWith zpPtrWrap r s

/-- `Operand(m)`: the immediate byte, or one read at `EA(m)` after the resolver has finished (R103, R114). -/
def readOperand : Source → State → Byte × State
  | .immediate d8, s => (d8, s)
  | .memory r, s =>
    let ea := effectiveAddress r s
    readByte ea.1 ea.2

/-- A store: the resolver, then one write at `EA(m)`, whose target is not read (R114). -/
def writeOperand (r : MemRef) (v : Byte) (s : State) : State :=
  let ea := effectiveAddress r s
  writeByte ea.1 v ea.2

/-- Where the second byte of an indirect JMP's target is (R110); `wrap` is `IND_JMP_PAGE_WRAP`. DEDUCED: for `wrap` true and
the pointer 0xFFFF this is 0xFF00, as R110's pseudocode and vector J5 have it; R110's corner case names 0x0000 (log entry 18). -/
def jmpPointerHigh (wrap : Bool) (ptr : Nat) : Nat :=
  if wrap then (ptr &&& 0xFF00) ||| ((ptr + 1) &&& 0x00FF) else ptr + 1

/-- `Target_ind()`: the word at the operand address (R110); `wrap` is `IND_JMP_PAGE_WRAP`. DESIGN CHOICE: the pointer 0x5FFF follows
the operation (R110, R58, R55), so the high byte is SaveRAM[0] at 0x6000, against R199's corner case, which gives the target
0x0000 for every pointer in 0x2001 to 0x5FFF (47_branch_jump.md; log entry 18). -/
def indirectTargetWith (wrap : Bool) (d16 : Addr) (s : State) : Addr × State :=
  readPair d16.toNat (jmpPointerHigh wrap d16.toNat) s

/-- The target of an indirect JMP on this hardware. -/
def indirectTarget (d16 : Addr) (s : State) : Addr × State := indirectTargetWith indJmpPageWrap d16 s

/-- `(PC + sext_8(d)) & 0xFFFF`, with PC past the displacement byte (R113, R190). -/
def branchTarget (pc : Addr) (d8 : Byte) : Addr := BitVec.ofInt 16 ((pc.toNat : Int) + sext8 d8)

end Sys2Proof.Machine
end

