-- ==== Sys2Proof/Machine/Arithmetic.lean ====
section
/-! DEFINITION. Add and subtract with carry: ADC, SBC (42_arithmetic.md R140 to R144). -/

namespace Sys2Proof.Machine

/-- ADC with the parameter `ADC_SBC_WRITE_V` (R142). -/
def addWithCarry (writeV : Bool) (src : Source) (s : State) : State :=
  let m := readOperand src s
  (m.2.setA (adcResult s.a m.1 (getFlag .C s.p))).setP (adcStatus writeV s.a m.1 s.p)

/-- SBC with the parameter `ADC_SBC_WRITE_V` (R143). -/
def subtractWithCarry (writeV : Bool) (src : Source) (s : State) : State :=
  let m := readOperand src s
  (m.2.setA (sbcResult s.a m.1 (getFlag .C s.p))).setP (sbcStatus writeV s.a m.1 s.p)

/-- `ADC #$nn`, opcode 0x69 (R142). -/
def execAdcImmediate (d8 : Byte) (s : State) : Result := .next (addWithCarry adcSbcWriteV (.immediate d8) s)

/-- `ADC $nn`, opcode 0x65 (R142). -/
def execAdcZeroPage (d8 : Byte) (s : State) : Result := .next (addWithCarry adcSbcWriteV (.memory (.zeroPage d8)) s)

/-- `ADC $nn,X`, opcode 0x75 (R142). -/
def execAdcZeroPageX (d8 : Byte) (s : State) : Result := .next (addWithCarry adcSbcWriteV (.memory (.zeroPageX d8)) s)

/-- `ADC $nnnn`, opcode 0x6D (R142). -/
def execAdcAbsolute (d16 : Addr) (s : State) : Result := .next (addWithCarry adcSbcWriteV (.memory (.absolute d16)) s)

/-- `ADC $nnnn,X`, opcode 0x7D (R142). -/
def execAdcAbsoluteX (d16 : Addr) (s : State) : Result := .next (addWithCarry adcSbcWriteV (.memory (.absoluteX d16)) s)

/-- `ADC $nnnn,Y`, opcode 0x79 (R142). -/
def execAdcAbsoluteY (d16 : Addr) (s : State) : Result := .next (addWithCarry adcSbcWriteV (.memory (.absoluteY d16)) s)

/-- `ADC ($nn,X)`, opcode 0x61 (R142). -/
def execAdcIndexedIndirect (d8 : Byte) (s : State) : Result := .next (addWithCarry adcSbcWriteV (.memory (.indexedIndirect d8)) s)

/-- `ADC ($nn),Y`, opcode 0x71 (R142). -/
def execAdcIndirectIndexed (d8 : Byte) (s : State) : Result := .next (addWithCarry adcSbcWriteV (.memory (.indirectIndexed d8)) s)

/-- `SBC #$nn`, opcode 0xE9 (R143). -/
def execSbcImmediate (d8 : Byte) (s : State) : Result := .next (subtractWithCarry adcSbcWriteV (.immediate d8) s)

/-- `SBC $nn`, opcode 0xE5 (R143). -/
def execSbcZeroPage (d8 : Byte) (s : State) : Result := .next (subtractWithCarry adcSbcWriteV (.memory (.zeroPage d8)) s)

/-- `SBC $nn,X`, opcode 0xF5 (R143). -/
def execSbcZeroPageX (d8 : Byte) (s : State) : Result := .next (subtractWithCarry adcSbcWriteV (.memory (.zeroPageX d8)) s)

/-- `SBC $nnnn`, opcode 0xED (R143). -/
def execSbcAbsolute (d16 : Addr) (s : State) : Result := .next (subtractWithCarry adcSbcWriteV (.memory (.absolute d16)) s)

/-- `SBC $nnnn,X`, opcode 0xFD (R143). -/
def execSbcAbsoluteX (d16 : Addr) (s : State) : Result := .next (subtractWithCarry adcSbcWriteV (.memory (.absoluteX d16)) s)

/-- `SBC $nnnn,Y`, opcode 0xF9 (R143). -/
def execSbcAbsoluteY (d16 : Addr) (s : State) : Result := .next (subtractWithCarry adcSbcWriteV (.memory (.absoluteY d16)) s)

/-- `SBC ($nn,X)`, opcode 0xE1 (R143). -/
def execSbcIndexedIndirect (d8 : Byte) (s : State) : Result := .next (subtractWithCarry adcSbcWriteV (.memory (.indexedIndirect d8)) s)

/-- `SBC ($nn),Y`, opcode 0xF1 (R143). -/
def execSbcIndirectIndexed (d8 : Byte) (s : State) : Result := .next (subtractWithCarry adcSbcWriteV (.memory (.indirectIndexed d8)) s)

end Sys2Proof.Machine
end

