-- ==== Sys2Proof/Machine/Branch.lean ====
section
/-! DEFINITION. Branches and jumps: BPL, BMI, BVC, BVS, BCC, BCS, BNE, BEQ, JMP (47_branch_jump.md R190 to R199). -/

namespace Sys2Proof.Machine

/-- `Branch(cond)`, with PC past the displacement byte (R190). -/
def branchIf (cond : Bool) (d8 : Byte) (s : State) : State :=
  if cond then s.setPc (branchTarget s.pc d8) else s

/-- JMP (indirect): `PC <- Target_ind()` (R199, 40_addressing.md R110). -/
def jumpIndirect (d16 : Addr) (s : State) : State :=
  let t := indirectTarget d16 s
  t.2.setPc t.1

/-- `BPL label`, opcode 0x10 (R191). -/
def execBpl (d8 : Byte) (s : State) : Result := .next (branchIf (!getFlag .N s.p) d8 s)

/-- `BMI label`, opcode 0x30 (R192). -/
def execBmi (d8 : Byte) (s : State) : Result := .next (branchIf (getFlag .N s.p) d8 s)

/-- `BVC label`, opcode 0x50 (R193). -/
def execBvc (d8 : Byte) (s : State) : Result := .next (branchIf (!getFlag .V s.p) d8 s)

/-- `BVS label`, opcode 0x70 (R194). -/
def execBvs (d8 : Byte) (s : State) : Result := .next (branchIf (getFlag .V s.p) d8 s)

/-- `BCC label`, opcode 0x90 (R195). -/
def execBcc (d8 : Byte) (s : State) : Result := .next (branchIf (!getFlag .C s.p) d8 s)

/-- `BCS label`, opcode 0xB0 (R196). -/
def execBcs (d8 : Byte) (s : State) : Result := .next (branchIf (getFlag .C s.p) d8 s)

/-- `BNE label`, opcode 0xD0 (R197). -/
def execBne (d8 : Byte) (s : State) : Result := .next (branchIf (!getFlag .Z s.p) d8 s)

/-- `BEQ label`, opcode 0xF0 (R198). -/
def execBeq (d8 : Byte) (s : State) : Result := .next (branchIf (getFlag .Z s.p) d8 s)

/-- `JMP $nnnn`, opcode 0x4C (R199). -/
def execJmpAbsolute (d16 : Addr) (s : State) : Result := .next (s.setPc d16)

/-- `JMP ($nnnn)`, opcode 0x6C (R199). -/
def execJmpIndirect (d16 : Addr) (s : State) : Result := .next (jumpIndirect d16 s)

end Sys2Proof.Machine
end

