-- ==== Sys2Proof/Machine/Compare.lean ====
section
/-! DEFINITION. Compares: CMP, CPX, CPY (46_compare.md R180 to R183). -/

namespace Sys2Proof.Machine

/-- `Compare(reg, Operand(m))` (R180). -/
def compareWith (reg : Byte) (src : Source) (s : State) : State :=
  let m := readOperand src s
  m.2.setP (compareStatus reg m.1 s.p)

/-- `CMP #$nn`, opcode 0xC9 (R181). -/
def execCmpImmediate (d8 : Byte) (s : State) : Result := .next (compareWith s.a (.immediate d8) s)

/-- `CMP $nn`, opcode 0xC5 (R181). -/
def execCmpZeroPage (d8 : Byte) (s : State) : Result := .next (compareWith s.a (.memory (.zeroPage d8)) s)

/-- `CMP $nn,X`, opcode 0xD5 (R181). -/
def execCmpZeroPageX (d8 : Byte) (s : State) : Result := .next (compareWith s.a (.memory (.zeroPageX d8)) s)

/-- `CMP $nnnn`, opcode 0xCD (R181). -/
def execCmpAbsolute (d16 : Addr) (s : State) : Result := .next (compareWith s.a (.memory (.absolute d16)) s)

/-- `CMP $nnnn,X`, opcode 0xDD (R181). -/
def execCmpAbsoluteX (d16 : Addr) (s : State) : Result := .next (compareWith s.a (.memory (.absoluteX d16)) s)

/-- `CMP $nnnn,Y`, opcode 0xD9 (R181). -/
def execCmpAbsoluteY (d16 : Addr) (s : State) : Result := .next (compareWith s.a (.memory (.absoluteY d16)) s)

/-- `CMP ($nn,X)`, opcode 0xC1 (R181). -/
def execCmpIndexedIndirect (d8 : Byte) (s : State) : Result := .next (compareWith s.a (.memory (.indexedIndirect d8)) s)

/-- `CMP ($nn),Y`, opcode 0xD1 (R181). -/
def execCmpIndirectIndexed (d8 : Byte) (s : State) : Result := .next (compareWith s.a (.memory (.indirectIndexed d8)) s)

/-- `CPX #$nn`, opcode 0xE0 (R182). -/
def execCpxImmediate (d8 : Byte) (s : State) : Result := .next (compareWith s.x (.immediate d8) s)

/-- `CPX $nn`, opcode 0xE4 (R182). -/
def execCpxZeroPage (d8 : Byte) (s : State) : Result := .next (compareWith s.x (.memory (.zeroPage d8)) s)

/-- `CPX $nnnn`, opcode 0xEC (R182). -/
def execCpxAbsolute (d16 : Addr) (s : State) : Result := .next (compareWith s.x (.memory (.absolute d16)) s)

/-- `CPY #$nn`, opcode 0xC0 (R183). -/
def execCpyImmediate (d8 : Byte) (s : State) : Result := .next (compareWith s.y (.immediate d8) s)

/-- `CPY $nn`, opcode 0xC4 (R183). -/
def execCpyZeroPage (d8 : Byte) (s : State) : Result := .next (compareWith s.y (.memory (.zeroPage d8)) s)

/-- `CPY $nnnn`, opcode 0xCC (R183). -/
def execCpyAbsolute (d16 : Addr) (s : State) : Result := .next (compareWith s.y (.memory (.absolute d16)) s)

end Sys2Proof.Machine
end

