-- ==== Sys2Proof/Machine/FlagHalt.lean ====
section
/-! DEFINITION. Flag set and clear, halt, no operation: CLC, SEC, CLI, SEI, CLD, SED, CLV, BRK, NOP (49_flags_halt_nop.md R211 to R219). -/

namespace Sys2Proof.Machine

/-- `CLC`, opcode 0x18 (R211). -/
def execClc (s : State) : Result := .next (s.setP (setFlag .C false s.p))

/-- `SEC`, opcode 0x38 (R212). -/
def execSec (s : State) : Result := .next (s.setP (setFlag .C true s.p))

/-- `CLI`, opcode 0x58 (R213). -/
def execCli (s : State) : Result := .next (s.setP (setFlag .I false s.p))

/-- `SEI`, opcode 0x78 (R214). -/
def execSei (s : State) : Result := .next (s.setP (setFlag .I true s.p))

/-- `CLD`, opcode 0xD8 (R215). -/
def execCld (s : State) : Result := .next (s.setP (setFlag .D false s.p))

/-- `SED`, opcode 0xF8 (R216). -/
def execSed (s : State) : Result := .next (s.setP (setFlag .D true s.p))

/-- `CLV`, opcode 0xB8 (R217). -/
def execClv (s : State) : Result := .next (s.setP (setFlag .V false s.p))

/-- `BRK`, opcode 0x00 (R218). -/
def execBrk (s : State) : Result := .next (s.setReady false)

/-- `NOP`, opcode 0xEA (R219). -/
def execNop (s : State) : Result := .next (s)

end Sys2Proof.Machine
end

