-- ==== Sys2Proof/Machine/IncDec.lean ====
section
/-! DEFINITION. Increment and decrement: INC, DEC, INX, INY, DEX, DEY (45_incdec.md R170 to R176). Bytes wrap modulo 256. -/

namespace Sys2Proof.Machine

/-- Read-modify-write of a byte of memory: `SetNZ(r)`, then `MemWrite(ea, 1, r)` (R171, R172). -/
def modifyMemory (f : Byte → Byte) (ref : MemRef) (s : State) : State :=
  let ea := effectiveAddress ref s
  let m := readByte ea.1 ea.2
  writeByte ea.1 (f m.1) (m.2.setP (setNZ (f m.1) s.p))

/-- `INC $nn`, opcode 0xE6 (R171). -/
def execIncZeroPage (d8 : Byte) (s : State) : Result := .next (modifyMemory (· + 1) (.zeroPage d8) s)

/-- `INC $nn,X`, opcode 0xF6 (R171). -/
def execIncZeroPageX (d8 : Byte) (s : State) : Result := .next (modifyMemory (· + 1) (.zeroPageX d8) s)

/-- `INC $nnnn`, opcode 0xEE (R171). -/
def execIncAbsolute (d16 : Addr) (s : State) : Result := .next (modifyMemory (· + 1) (.absolute d16) s)

/-- `INC $nnnn,X`, opcode 0xFE (R171). -/
def execIncAbsoluteX (d16 : Addr) (s : State) : Result := .next (modifyMemory (· + 1) (.absoluteX d16) s)

/-- `DEC $nn`, opcode 0xC6 (R172). -/
def execDecZeroPage (d8 : Byte) (s : State) : Result := .next (modifyMemory (· - 1) (.zeroPage d8) s)

/-- `DEC $nn,X`, opcode 0xD6 (R172). -/
def execDecZeroPageX (d8 : Byte) (s : State) : Result := .next (modifyMemory (· - 1) (.zeroPageX d8) s)

/-- `DEC $nnnn`, opcode 0xCE (R172). -/
def execDecAbsolute (d16 : Addr) (s : State) : Result := .next (modifyMemory (· - 1) (.absolute d16) s)

/-- `DEC $nnnn,X`, opcode 0xDE (R172). -/
def execDecAbsoluteX (d16 : Addr) (s : State) : Result := .next (modifyMemory (· - 1) (.absoluteX d16) s)

/-- `INX`, opcode 0xE8 (R173). -/
def execInx (s : State) : Result := .next (writeRegNZ State.setX (s.x + 1) s)

/-- `INY`, opcode 0xC8 (R174). -/
def execIny (s : State) : Result := .next (writeRegNZ State.setY (s.y + 1) s)

/-- `DEX`, opcode 0xCA (R175). -/
def execDex (s : State) : Result := .next (writeRegNZ State.setX (s.x - 1) s)

/-- `DEY`, opcode 0x88 (R176). -/
def execDey (s : State) : Result := .next (writeRegNZ State.setY (s.y - 1) s)

end Sys2Proof.Machine
end

