-- ==== Sys2Proof/Machine/Load.lean ====
section
/-! DEFINITION. Loads: LDA, LDX, LDY (41_transfer_load_store.md R127 to R129). -/

namespace Sys2Proof.Machine

/-- `reg <- Operand(m); SetNZ(reg)` (R127 to R129). -/
def load (set : State → Byte → State) (src : Source) (s : State) : State :=
  let m := readOperand src s
  writeRegNZ set m.1 m.2

/-- `LDA #$nn`, opcode 0xA9 (R127). -/
def execLdaImmediate (d8 : Byte) (s : State) : Result := .next (load State.setA (.immediate d8) s)

/-- `LDA $nn`, opcode 0xA5 (R127). -/
def execLdaZeroPage (d8 : Byte) (s : State) : Result := .next (load State.setA (.memory (.zeroPage d8)) s)

/-- `LDA $nn,X`, opcode 0xB5 (R127). -/
def execLdaZeroPageX (d8 : Byte) (s : State) : Result := .next (load State.setA (.memory (.zeroPageX d8)) s)

/-- `LDA $nnnn`, opcode 0xAD (R127). -/
def execLdaAbsolute (d16 : Addr) (s : State) : Result := .next (load State.setA (.memory (.absolute d16)) s)

/-- `LDA $nnnn,X`, opcode 0xBD (R127). -/
def execLdaAbsoluteX (d16 : Addr) (s : State) : Result := .next (load State.setA (.memory (.absoluteX d16)) s)

/-- `LDA $nnnn,Y`, opcode 0xB9 (R127). -/
def execLdaAbsoluteY (d16 : Addr) (s : State) : Result := .next (load State.setA (.memory (.absoluteY d16)) s)

/-- `LDA ($nn,X)`, opcode 0xA1 (R127). -/
def execLdaIndexedIndirect (d8 : Byte) (s : State) : Result := .next (load State.setA (.memory (.indexedIndirect d8)) s)

/-- `LDA ($nn),Y`, opcode 0xB1 (R127). -/
def execLdaIndirectIndexed (d8 : Byte) (s : State) : Result := .next (load State.setA (.memory (.indirectIndexed d8)) s)

/-- `LDX #$nn`, opcode 0xA2 (R128). -/
def execLdxImmediate (d8 : Byte) (s : State) : Result := .next (load State.setX (.immediate d8) s)

/-- `LDX $nn`, opcode 0xA6 (R128). -/
def execLdxZeroPage (d8 : Byte) (s : State) : Result := .next (load State.setX (.memory (.zeroPage d8)) s)

/-- `LDX $nn,Y`, opcode 0xB6 (R128). -/
def execLdxZeroPageY (d8 : Byte) (s : State) : Result := .next (load State.setX (.memory (.zeroPageY d8)) s)

/-- `LDX $nnnn`, opcode 0xAE (R128). -/
def execLdxAbsolute (d16 : Addr) (s : State) : Result := .next (load State.setX (.memory (.absolute d16)) s)

/-- `LDX $nnnn,Y`, opcode 0xBE (R128). -/
def execLdxAbsoluteY (d16 : Addr) (s : State) : Result := .next (load State.setX (.memory (.absoluteY d16)) s)

/-- `LDY #$nn`, opcode 0xA0 (R129). -/
def execLdyImmediate (d8 : Byte) (s : State) : Result := .next (load State.setY (.immediate d8) s)

/-- `LDY $nn`, opcode 0xA4 (R129). -/
def execLdyZeroPage (d8 : Byte) (s : State) : Result := .next (load State.setY (.memory (.zeroPage d8)) s)

/-- `LDY $nn,X`, opcode 0xB4 (R129). -/
def execLdyZeroPageX (d8 : Byte) (s : State) : Result := .next (load State.setY (.memory (.zeroPageX d8)) s)

/-- `LDY $nnnn`, opcode 0xAC (R129). -/
def execLdyAbsolute (d16 : Addr) (s : State) : Result := .next (load State.setY (.memory (.absolute d16)) s)

/-- `LDY $nnnn,X`, opcode 0xBC (R129). -/
def execLdyAbsoluteX (d16 : Addr) (s : State) : Result := .next (load State.setY (.memory (.absoluteX d16)) s)

end Sys2Proof.Machine
end

