-- ==== Sys2Proof/Machine/Logical.lean ====
section
/-! DEFINITION. Logical instructions and bit test: AND, ORA, EOR, BIT (43_logical.md R151 to R154). -/

namespace Sys2Proof.Machine

/-- `A <- A op Operand(m); SetNZ(A)` (R151 to R153). -/
def logical (op : Byte → Byte → Byte) (src : Source) (s : State) : State :=
  let m := readOperand src s
  writeRegNZ State.setA (op s.a m.1) m.2

/-- BIT: Z from A & M, N and V from M; A and memory unchanged (R154). -/
def testBits (r : MemRef) (s : State) : State :=
  let m := readOperand (.memory r) s
  m.2.setP (bitStatus s.a m.1 s.p)

/-- `AND #$nn`, opcode 0x29 (R151). -/
def execAndImmediate (d8 : Byte) (s : State) : Result := .next (logical (· &&& ·) (.immediate d8) s)

/-- `AND $nn`, opcode 0x25 (R151). -/
def execAndZeroPage (d8 : Byte) (s : State) : Result := .next (logical (· &&& ·) (.memory (.zeroPage d8)) s)

/-- `AND $nn,X`, opcode 0x35 (R151). -/
def execAndZeroPageX (d8 : Byte) (s : State) : Result := .next (logical (· &&& ·) (.memory (.zeroPageX d8)) s)

/-- `AND $nnnn`, opcode 0x2D (R151). -/
def execAndAbsolute (d16 : Addr) (s : State) : Result := .next (logical (· &&& ·) (.memory (.absolute d16)) s)

/-- `AND $nnnn,X`, opcode 0x3D (R151). -/
def execAndAbsoluteX (d16 : Addr) (s : State) : Result := .next (logical (· &&& ·) (.memory (.absoluteX d16)) s)

/-- `AND $nnnn,Y`, opcode 0x39 (R151). -/
def execAndAbsoluteY (d16 : Addr) (s : State) : Result := .next (logical (· &&& ·) (.memory (.absoluteY d16)) s)

/-- `AND ($nn,X)`, opcode 0x21 (R151). -/
def execAndIndexedIndirect (d8 : Byte) (s : State) : Result := .next (logical (· &&& ·) (.memory (.indexedIndirect d8)) s)

/-- `AND ($nn),Y`, opcode 0x31 (R151). -/
def execAndIndirectIndexed (d8 : Byte) (s : State) : Result := .next (logical (· &&& ·) (.memory (.indirectIndexed d8)) s)

/-- `ORA #$nn`, opcode 0x09 (R152). -/
def execOraImmediate (d8 : Byte) (s : State) : Result := .next (logical (· ||| ·) (.immediate d8) s)

/-- `ORA $nn`, opcode 0x05 (R152). -/
def execOraZeroPage (d8 : Byte) (s : State) : Result := .next (logical (· ||| ·) (.memory (.zeroPage d8)) s)

/-- `ORA $nn,X`, opcode 0x15 (R152). -/
def execOraZeroPageX (d8 : Byte) (s : State) : Result := .next (logical (· ||| ·) (.memory (.zeroPageX d8)) s)

/-- `ORA $nnnn`, opcode 0x0D (R152). -/
def execOraAbsolute (d16 : Addr) (s : State) : Result := .next (logical (· ||| ·) (.memory (.absolute d16)) s)

/-- `ORA $nnnn,X`, opcode 0x1D (R152). -/
def execOraAbsoluteX (d16 : Addr) (s : State) : Result := .next (logical (· ||| ·) (.memory (.absoluteX d16)) s)

/-- `ORA $nnnn,Y`, opcode 0x19 (R152). -/
def execOraAbsoluteY (d16 : Addr) (s : State) : Result := .next (logical (· ||| ·) (.memory (.absoluteY d16)) s)

/-- `ORA ($nn,X)`, opcode 0x01 (R152). -/
def execOraIndexedIndirect (d8 : Byte) (s : State) : Result := .next (logical (· ||| ·) (.memory (.indexedIndirect d8)) s)

/-- `ORA ($nn),Y`, opcode 0x11 (R152). -/
def execOraIndirectIndexed (d8 : Byte) (s : State) : Result := .next (logical (· ||| ·) (.memory (.indirectIndexed d8)) s)

/-- `EOR #$nn`, opcode 0x49 (R153). -/
def execEorImmediate (d8 : Byte) (s : State) : Result := .next (logical (· ^^^ ·) (.immediate d8) s)

/-- `EOR $nn`, opcode 0x45 (R153). -/
def execEorZeroPage (d8 : Byte) (s : State) : Result := .next (logical (· ^^^ ·) (.memory (.zeroPage d8)) s)

/-- `EOR $nn,X`, opcode 0x55 (R153). -/
def execEorZeroPageX (d8 : Byte) (s : State) : Result := .next (logical (· ^^^ ·) (.memory (.zeroPageX d8)) s)

/-- `EOR $nnnn`, opcode 0x4D (R153). -/
def execEorAbsolute (d16 : Addr) (s : State) : Result := .next (logical (· ^^^ ·) (.memory (.absolute d16)) s)

/-- `EOR $nnnn,X`, opcode 0x5D (R153). -/
def execEorAbsoluteX (d16 : Addr) (s : State) : Result := .next (logical (· ^^^ ·) (.memory (.absoluteX d16)) s)

/-- `EOR $nnnn,Y`, opcode 0x59 (R153). -/
def execEorAbsoluteY (d16 : Addr) (s : State) : Result := .next (logical (· ^^^ ·) (.memory (.absoluteY d16)) s)

/-- `EOR ($nn,X)`, opcode 0x41 (R153). -/
def execEorIndexedIndirect (d8 : Byte) (s : State) : Result := .next (logical (· ^^^ ·) (.memory (.indexedIndirect d8)) s)

/-- `EOR ($nn),Y`, opcode 0x51 (R153). -/
def execEorIndirectIndexed (d8 : Byte) (s : State) : Result := .next (logical (· ^^^ ·) (.memory (.indirectIndexed d8)) s)

/-- `BIT $nn`, opcode 0x24 (R154). -/
def execBitZeroPage (d8 : Byte) (s : State) : Result := .next (testBits (.zeroPage d8) s)

/-- `BIT $nnnn`, opcode 0x2C (R154). -/
def execBitAbsolute (d16 : Addr) (s : State) : Result := .next (testBits (.absolute d16) s)

end Sys2Proof.Machine
end

