-- ==== Sys2Proof/Machine/Shift.lean ====
section
/-! DEFINITION. Shifts and rotates: ASL, LSR, ROL, ROR (44_shift_rotate.md R160 to R164). -/

namespace Sys2Proof.Machine

/-- Shift or rotate A or a byte of memory by one place with the old Carry: `P.C <- c; SetNZ(r)`, then the result written
back, the resolver run once (R161 to R164, 40_addressing.md R114). -/
def shiftTarget (f : Byte → Bool → Byte × Bool) : Target → State → State
  | .accumulator, s =>
    let r := f s.a (getFlag .C s.p)
    (s.setA r.1).setP (shiftStatus r s.p)
  | .memory ref, s =>
    let ea := effectiveAddress ref s
    let m := readByte ea.1 ea.2
    let r := f m.1 (getFlag .C s.p)
    writeByte ea.1 r.1 (m.2.setP (shiftStatus r s.p))

/-- `ASL A`, opcode 0x0A (R161). -/
def execAslAccumulator (s : State) : Result := .next (shiftTarget (fun v _ => shiftLeft v) .accumulator s)

/-- `ASL $nn`, opcode 0x06 (R161). -/
def execAslZeroPage (d8 : Byte) (s : State) : Result := .next (shiftTarget (fun v _ => shiftLeft v) (.memory (.zeroPage d8)) s)

/-- `ASL $nn,X`, opcode 0x16 (R161). -/
def execAslZeroPageX (d8 : Byte) (s : State) : Result := .next (shiftTarget (fun v _ => shiftLeft v) (.memory (.zeroPageX d8)) s)

/-- `ASL $nnnn`, opcode 0x0E (R161). -/
def execAslAbsolute (d16 : Addr) (s : State) : Result := .next (shiftTarget (fun v _ => shiftLeft v) (.memory (.absolute d16)) s)

/-- `ASL $nnnn,X`, opcode 0x1E (R161). -/
def execAslAbsoluteX (d16 : Addr) (s : State) : Result := .next (shiftTarget (fun v _ => shiftLeft v) (.memory (.absoluteX d16)) s)

/-- `LSR A`, opcode 0x4A (R162). -/
def execLsrAccumulator (s : State) : Result := .next (shiftTarget (fun v _ => shiftRight v) .accumulator s)

/-- `LSR $nn`, opcode 0x46 (R162). -/
def execLsrZeroPage (d8 : Byte) (s : State) : Result := .next (shiftTarget (fun v _ => shiftRight v) (.memory (.zeroPage d8)) s)

/-- `LSR $nn,X`, opcode 0x56 (R162). -/
def execLsrZeroPageX (d8 : Byte) (s : State) : Result := .next (shiftTarget (fun v _ => shiftRight v) (.memory (.zeroPageX d8)) s)

/-- `LSR $nnnn`, opcode 0x4E (R162). -/
def execLsrAbsolute (d16 : Addr) (s : State) : Result := .next (shiftTarget (fun v _ => shiftRight v) (.memory (.absolute d16)) s)

/-- `LSR $nnnn,X`, opcode 0x5E (R162). -/
def execLsrAbsoluteX (d16 : Addr) (s : State) : Result := .next (shiftTarget (fun v _ => shiftRight v) (.memory (.absoluteX d16)) s)

/-- `ROL A`, opcode 0x2A (R163). -/
def execRolAccumulator (s : State) : Result := .next (shiftTarget rotateLeft .accumulator s)

/-- `ROL $nn`, opcode 0x26 (R163). -/
def execRolZeroPage (d8 : Byte) (s : State) : Result := .next (shiftTarget rotateLeft (.memory (.zeroPage d8)) s)

/-- `ROL $nn,X`, opcode 0x36 (R163). -/
def execRolZeroPageX (d8 : Byte) (s : State) : Result := .next (shiftTarget rotateLeft (.memory (.zeroPageX d8)) s)

/-- `ROL $nnnn`, opcode 0x2E (R163). -/
def execRolAbsolute (d16 : Addr) (s : State) : Result := .next (shiftTarget rotateLeft (.memory (.absolute d16)) s)

/-- `ROL $nnnn,X`, opcode 0x3E (R163). -/
def execRolAbsoluteX (d16 : Addr) (s : State) : Result := .next (shiftTarget rotateLeft (.memory (.absoluteX d16)) s)

/-- `ROR A`, opcode 0x6A (R164). -/
def execRorAccumulator (s : State) : Result := .next (shiftTarget rotateRight .accumulator s)

/-- `ROR $nn`, opcode 0x66 (R164). -/
def execRorZeroPage (d8 : Byte) (s : State) : Result := .next (shiftTarget rotateRight (.memory (.zeroPage d8)) s)

/-- `ROR $nn,X`, opcode 0x76 (R164). -/
def execRorZeroPageX (d8 : Byte) (s : State) : Result := .next (shiftTarget rotateRight (.memory (.zeroPageX d8)) s)

/-- `ROR $nnnn`, opcode 0x6E (R164). -/
def execRorAbsolute (d16 : Addr) (s : State) : Result := .next (shiftTarget rotateRight (.memory (.absolute d16)) s)

/-- `ROR $nnnn,X`, opcode 0x7E (R164). -/
def execRorAbsoluteX (d16 : Addr) (s : State) : Result := .next (shiftTarget rotateRight (.memory (.absoluteX d16)) s)

end Sys2Proof.Machine
end

