-- ==== Sys2Proof/Machine/Stack.lean ====
section
/-! DEFINITION. Stack, subroutine and return instructions: PHA, PHP, PLA, PLP, JSR, RTS, RTI (48_stack_subroutine.md R200 to R206). -/

namespace Sys2Proof.Machine

/-- PLA: `A <- Pull8(); SetNZ(A)` (R202). -/
def pullA (s : State) : State :=
  let r := pull8 s
  writeRegNZ State.setA r.1 r.2

/-- PLP: all eight bits of P (R203). -/
def pullP (s : State) : State :=
  let r := pull8 s
  r.2.setP r.1

/-- RTS: `PC <- (Pull16() + 1) & 0xFFFF` (R205). -/
def returnFromSubroutine (s : State) : State :=
  let r := pull16 s
  r.2.setPc (r.1 + 1)

/-- `PHA`, opcode 0x48 (R200). -/
def execPha (s : State) : Result := .next (push8 s.a s)

/-- `PHP`, opcode 0x08 (R201). -/
def execPhp (s : State) : Result := .next (push8 (s.p ||| 0x30) s)

/-- `PLA`, opcode 0x68 (R202). -/
def execPla (s : State) : Result := .next (pullA s)

/-- `PLP`, opcode 0x28 (R203). -/
def execPlp (s : State) : Result := .next (pullP s)

/-- `JSR $nnnn`, opcode 0x20 (R204). -/
def execJsr (d16 : Addr) (s : State) : Result := .next ((push16 (s.pc - 1) s).setPc d16)

/-- `RTS`, opcode 0x60 (R205). -/
def execRts (s : State) : Result := .next (returnFromSubroutine s)

/-- `RTI`, opcode 0x40 (R206). -/
def execRti (s : State) : Result := .next (returnFromInterrupt s)

end Sys2Proof.Machine
end

