-- ==== Sys2Proof/Machine/Store.lean ====
section
/-! DEFINITION. Stores: STA, STX, STY (41_transfer_load_store.md R130 to R132). `MemWrite(EA(m), 1, reg)`; no flag. -/

namespace Sys2Proof.Machine

/-- `STA $nn`, opcode 0x85 (R130). -/
def execStaZeroPage (d8 : Byte) (s : State) : Result := .next (writeOperand (.zeroPage d8) s.a s)

/-- `STA $nn,X`, opcode 0x95 (R130). -/
def execStaZeroPageX (d8 : Byte) (s : State) : Result := .next (writeOperand (.zeroPageX d8) s.a s)

/-- `STA $nnnn`, opcode 0x8D (R130). -/
def execStaAbsolute (d16 : Addr) (s : State) : Result := .next (writeOperand (.absolute d16) s.a s)

/-- `STA $nnnn,X`, opcode 0x9D (R130). -/
def execStaAbsoluteX (d16 : Addr) (s : State) : Result := .next (writeOperand (.absoluteX d16) s.a s)

/-- `STA $nnnn,Y`, opcode 0x99 (R130). -/
def execStaAbsoluteY (d16 : Addr) (s : State) : Result := .next (writeOperand (.absoluteY d16) s.a s)

/-- `STA ($nn,X)`, opcode 0x81 (R130). -/
def execStaIndexedIndirect (d8 : Byte) (s : State) : Result := .next (writeOperand (.indexedIndirect d8) s.a s)

/-- `STA ($nn),Y`, opcode 0x91 (R130). -/
def execStaIndirectIndexed (d8 : Byte) (s : State) : Result := .next (writeOperand (.indirectIndexed d8) s.a s)

/-- `STX $nn`, opcode 0x86 (R131). -/
def execStxZeroPage (d8 : Byte) (s : State) : Result := .next (writeOperand (.zeroPage d8) s.x s)

/-- `STX $nn,Y`, opcode 0x96 (R131). -/
def execStxZeroPageY (d8 : Byte) (s : State) : Result := .next (writeOperand (.zeroPageY d8) s.x s)

/-- `STX $nnnn`, opcode 0x8E (R131). -/
def execStxAbsolute (d16 : Addr) (s : State) : Result := .next (writeOperand (.absolute d16) s.x s)

/-- `STY $nn`, opcode 0x84 (R132). -/
def execStyZeroPage (d8 : Byte) (s : State) : Result := .next (writeOperand (.zeroPage d8) s.y s)

/-- `STY $nn,X`, opcode 0x94 (R132). -/
def execStyZeroPageX (d8 : Byte) (s : State) : Result := .next (writeOperand (.zeroPageX d8) s.y s)

/-- `STY $nnnn`, opcode 0x8C (R132). -/
def execStyAbsolute (d16 : Addr) (s : State) : Result := .next (writeOperand (.absolute d16) s.y s)

end Sys2Proof.Machine
end

