-- ==== Sys2Proof/Machine/Transfer.lean ====
section
/-! DEFINITION. Register transfers: TAX, TAY, TXA, TYA, TSX, TXS (41_transfer_load_store.md R121 to R126). -/

namespace Sys2Proof.Machine

/-- TXS: `S <- X; if TXS_UPDATES_NZ: SetNZ(S)` (R126). -/
def transferXToS (updatesNZ : Bool) (s : State) : State :=
  if updatesNZ then writeRegNZ State.setSp s.x s else s.setSp s.x

/-- `TAX`, opcode 0xAA (R121). -/
def execTax (s : State) : Result := .next (writeRegNZ State.setX s.a s)

/-- `TAY`, opcode 0xA8 (R122). -/
def execTay (s : State) : Result := .next (writeRegNZ State.setY s.a s)

/-- `TXA`, opcode 0x8A (R123). -/
def execTxa (s : State) : Result := .next (writeRegNZ State.setA s.x s)

/-- `TYA`, opcode 0x98 (R124). -/
def execTya (s : State) : Result := .next (writeRegNZ State.setA s.y s)

/-- `TSX`, opcode 0xBA (R125). -/
def execTsx (s : State) : Result := .next (writeRegNZ State.setX s.sp s)

/-- `TXS`, opcode 0x9A (R126). -/
def execTxs (s : State) : Result := .next (transferXToS txsUpdatesNZ s)

end Sys2Proof.Machine
end

