-- ==== Sys2Proof/Machine/Dispatch.lean ====
section
/-! DEFINITION. exec: one arm for each constructor of Instr. PC holds the address of the next instruction (40_addressing.md R100). -/

namespace Sys2Proof.Machine

def exec (i : Instr) (s : State) : Host.Outcome State Fault Refusal :=
  match i with
  | .tax => Sys2Proof.Machine.execTax s
  | .tay => Sys2Proof.Machine.execTay s
  | .txa => Sys2Proof.Machine.execTxa s
  | .tya => Sys2Proof.Machine.execTya s
  | .tsx => Sys2Proof.Machine.execTsx s
  | .txs => Sys2Proof.Machine.execTxs s
  | .ldaImmediate d8 => Sys2Proof.Machine.execLdaImmediate d8 s
  | .ldaZeroPage d8 => Sys2Proof.Machine.execLdaZeroPage d8 s
  | .ldaZeroPageX d8 => Sys2Proof.Machine.execLdaZeroPageX d8 s
  | .ldaAbsolute d16 => Sys2Proof.Machine.execLdaAbsolute d16 s
  | .ldaAbsoluteX d16 => Sys2Proof.Machine.execLdaAbsoluteX d16 s
  | .ldaAbsoluteY d16 => Sys2Proof.Machine.execLdaAbsoluteY d16 s
  | .ldaIndexedIndirect d8 => Sys2Proof.Machine.execLdaIndexedIndirect d8 s
  | .ldaIndirectIndexed d8 => Sys2Proof.Machine.execLdaIndirectIndexed d8 s
  | .ldxImmediate d8 => Sys2Proof.Machine.execLdxImmediate d8 s
  | .ldxZeroPage d8 => Sys2Proof.Machine.execLdxZeroPage d8 s
  | .ldxZeroPageY d8 => Sys2Proof.Machine.execLdxZeroPageY d8 s
  | .ldxAbsolute d16 => Sys2Proof.Machine.execLdxAbsolute d16 s
  | .ldxAbsoluteY d16 => Sys2Proof.Machine.execLdxAbsoluteY d16 s
  | .ldyImmediate d8 => Sys2Proof.Machine.execLdyImmediate d8 s
  | .ldyZeroPage d8 => Sys2Proof.Machine.execLdyZeroPage d8 s
  | .ldyZeroPageX d8 => Sys2Proof.Machine.execLdyZeroPageX d8 s
  | .ldyAbsolute d16 => Sys2Proof.Machine.execLdyAbsolute d16 s
  | .ldyAbsoluteX d16 => Sys2Proof.Machine.execLdyAbsoluteX d16 s
  | .staZeroPage d8 => Sys2Proof.Machine.execStaZeroPage d8 s
  | .staZeroPageX d8 => Sys2Proof.Machine.execStaZeroPageX d8 s
  | .staAbsolute d16 => Sys2Proof.Machine.execStaAbsolute d16 s
  | .staAbsoluteX d16 => Sys2Proof.Machine.execStaAbsoluteX d16 s
  | .staAbsoluteY d16 => Sys2Proof.Machine.execStaAbsoluteY d16 s
  | .staIndexedIndirect d8 => Sys2Proof.Machine.execStaIndexedIndirect d8 s
  | .staIndirectIndexed d8 => Sys2Proof.Machine.execStaIndirectIndexed d8 s
  | .stxZeroPage d8 => Sys2Proof.Machine.execStxZeroPage d8 s
  | .stxZeroPageY d8 => Sys2Proof.Machine.execStxZeroPageY d8 s
  | .stxAbsolute d16 => Sys2Proof.Machine.execStxAbsolute d16 s
  | .styZeroPage d8 => Sys2Proof.Machine.execStyZeroPage d8 s
  | .styZeroPageX d8 => Sys2Proof.Machine.execStyZeroPageX d8 s
  | .styAbsolute d16 => Sys2Proof.Machine.execStyAbsolute d16 s
  | .adcImmediate d8 => Sys2Proof.Machine.execAdcImmediate d8 s
  | .adcZeroPage d8 => Sys2Proof.Machine.execAdcZeroPage d8 s
  | .adcZeroPageX d8 => Sys2Proof.Machine.execAdcZeroPageX d8 s
  | .adcAbsolute d16 => Sys2Proof.Machine.execAdcAbsolute d16 s
  | .adcAbsoluteX d16 => Sys2Proof.Machine.execAdcAbsoluteX d16 s
  | .adcAbsoluteY d16 => Sys2Proof.Machine.execAdcAbsoluteY d16 s
  | .adcIndexedIndirect d8 => Sys2Proof.Machine.execAdcIndexedIndirect d8 s
  | .adcIndirectIndexed d8 => Sys2Proof.Machine.execAdcIndirectIndexed d8 s
  | .sbcImmediate d8 => Sys2Proof.Machine.execSbcImmediate d8 s
  | .sbcZeroPage d8 => Sys2Proof.Machine.execSbcZeroPage d8 s
  | .sbcZeroPageX d8 => Sys2Proof.Machine.execSbcZeroPageX d8 s
  | .sbcAbsolute d16 => Sys2Proof.Machine.execSbcAbsolute d16 s
  | .sbcAbsoluteX d16 => Sys2Proof.Machine.execSbcAbsoluteX d16 s
  | .sbcAbsoluteY d16 => Sys2Proof.Machine.execSbcAbsoluteY d16 s
  | .sbcIndexedIndirect d8 => Sys2Proof.Machine.execSbcIndexedIndirect d8 s
  | .sbcIndirectIndexed d8 => Sys2Proof.Machine.execSbcIndirectIndexed d8 s
  | .andImmediate d8 => Sys2Proof.Machine.execAndImmediate d8 s
  | .andZeroPage d8 => Sys2Proof.Machine.execAndZeroPage d8 s
  | .andZeroPageX d8 => Sys2Proof.Machine.execAndZeroPageX d8 s
  | .andAbsolute d16 => Sys2Proof.Machine.execAndAbsolute d16 s
  | .andAbsoluteX d16 => Sys2Proof.Machine.execAndAbsoluteX d16 s
  | .andAbsoluteY d16 => Sys2Proof.Machine.execAndAbsoluteY d16 s
  | .andIndexedIndirect d8 => Sys2Proof.Machine.execAndIndexedIndirect d8 s
  | .andIndirectIndexed d8 => Sys2Proof.Machine.execAndIndirectIndexed d8 s
  | .oraImmediate d8 => Sys2Proof.Machine.execOraImmediate d8 s
  | .oraZeroPage d8 => Sys2Proof.Machine.execOraZeroPage d8 s
  | .oraZeroPageX d8 => Sys2Proof.Machine.execOraZeroPageX d8 s
  | .oraAbsolute d16 => Sys2Proof.Machine.execOraAbsolute d16 s
  | .oraAbsoluteX d16 => Sys2Proof.Machine.execOraAbsoluteX d16 s
  | .oraAbsoluteY d16 => Sys2Proof.Machine.execOraAbsoluteY d16 s
  | .oraIndexedIndirect d8 => Sys2Proof.Machine.execOraIndexedIndirect d8 s
  | .oraIndirectIndexed d8 => Sys2Proof.Machine.execOraIndirectIndexed d8 s
  | .eorImmediate d8 => Sys2Proof.Machine.execEorImmediate d8 s
  | .eorZeroPage d8 => Sys2Proof.Machine.execEorZeroPage d8 s
  | .eorZeroPageX d8 => Sys2Proof.Machine.execEorZeroPageX d8 s
  | .eorAbsolute d16 => Sys2Proof.Machine.execEorAbsolute d16 s
  | .eorAbsoluteX d16 => Sys2Proof.Machine.execEorAbsoluteX d16 s
  | .eorAbsoluteY d16 => Sys2Proof.Machine.execEorAbsoluteY d16 s
  | .eorIndexedIndirect d8 => Sys2Proof.Machine.execEorIndexedIndirect d8 s
  | .eorIndirectIndexed d8 => Sys2Proof.Machine.execEorIndirectIndexed d8 s
  | .bitZeroPage d8 => Sys2Proof.Machine.execBitZeroPage d8 s
  | .bitAbsolute d16 => Sys2Proof.Machine.execBitAbsolute d16 s
  | .aslAccumulator => Sys2Proof.Machine.execAslAccumulator s
  | .aslZeroPage d8 => Sys2Proof.Machine.execAslZeroPage d8 s
  | .aslZeroPageX d8 => Sys2Proof.Machine.execAslZeroPageX d8 s
  | .aslAbsolute d16 => Sys2Proof.Machine.execAslAbsolute d16 s
  | .aslAbsoluteX d16 => Sys2Proof.Machine.execAslAbsoluteX d16 s
  | .lsrAccumulator => Sys2Proof.Machine.execLsrAccumulator s
  | .lsrZeroPage d8 => Sys2Proof.Machine.execLsrZeroPage d8 s
  | .lsrZeroPageX d8 => Sys2Proof.Machine.execLsrZeroPageX d8 s
  | .lsrAbsolute d16 => Sys2Proof.Machine.execLsrAbsolute d16 s
  | .lsrAbsoluteX d16 => Sys2Proof.Machine.execLsrAbsoluteX d16 s
  | .rolAccumulator => Sys2Proof.Machine.execRolAccumulator s
  | .rolZeroPage d8 => Sys2Proof.Machine.execRolZeroPage d8 s
  | .rolZeroPageX d8 => Sys2Proof.Machine.execRolZeroPageX d8 s
  | .rolAbsolute d16 => Sys2Proof.Machine.execRolAbsolute d16 s
  | .rolAbsoluteX d16 => Sys2Proof.Machine.execRolAbsoluteX d16 s
  | .rorAccumulator => Sys2Proof.Machine.execRorAccumulator s
  | .rorZeroPage d8 => Sys2Proof.Machine.execRorZeroPage d8 s
  | .rorZeroPageX d8 => Sys2Proof.Machine.execRorZeroPageX d8 s
  | .rorAbsolute d16 => Sys2Proof.Machine.execRorAbsolute d16 s
  | .rorAbsoluteX d16 => Sys2Proof.Machine.execRorAbsoluteX d16 s
  | .incZeroPage d8 => Sys2Proof.Machine.execIncZeroPage d8 s
  | .incZeroPageX d8 => Sys2Proof.Machine.execIncZeroPageX d8 s
  | .incAbsolute d16 => Sys2Proof.Machine.execIncAbsolute d16 s
  | .incAbsoluteX d16 => Sys2Proof.Machine.execIncAbsoluteX d16 s
  | .decZeroPage d8 => Sys2Proof.Machine.execDecZeroPage d8 s
  | .decZeroPageX d8 => Sys2Proof.Machine.execDecZeroPageX d8 s
  | .decAbsolute d16 => Sys2Proof.Machine.execDecAbsolute d16 s
  | .decAbsoluteX d16 => Sys2Proof.Machine.execDecAbsoluteX d16 s
  | .inx => Sys2Proof.Machine.execInx s
  | .iny => Sys2Proof.Machine.execIny s
  | .dex => Sys2Proof.Machine.execDex s
  | .dey => Sys2Proof.Machine.execDey s
  | .cmpImmediate d8 => Sys2Proof.Machine.execCmpImmediate d8 s
  | .cmpZeroPage d8 => Sys2Proof.Machine.execCmpZeroPage d8 s
  | .cmpZeroPageX d8 => Sys2Proof.Machine.execCmpZeroPageX d8 s
  | .cmpAbsolute d16 => Sys2Proof.Machine.execCmpAbsolute d16 s
  | .cmpAbsoluteX d16 => Sys2Proof.Machine.execCmpAbsoluteX d16 s
  | .cmpAbsoluteY d16 => Sys2Proof.Machine.execCmpAbsoluteY d16 s
  | .cmpIndexedIndirect d8 => Sys2Proof.Machine.execCmpIndexedIndirect d8 s
  | .cmpIndirectIndexed d8 => Sys2Proof.Machine.execCmpIndirectIndexed d8 s
  | .cpxImmediate d8 => Sys2Proof.Machine.execCpxImmediate d8 s
  | .cpxZeroPage d8 => Sys2Proof.Machine.execCpxZeroPage d8 s
  | .cpxAbsolute d16 => Sys2Proof.Machine.execCpxAbsolute d16 s
  | .cpyImmediate d8 => Sys2Proof.Machine.execCpyImmediate d8 s
  | .cpyZeroPage d8 => Sys2Proof.Machine.execCpyZeroPage d8 s
  | .cpyAbsolute d16 => Sys2Proof.Machine.execCpyAbsolute d16 s
  | .bpl d8 => Sys2Proof.Machine.execBpl d8 s
  | .bmi d8 => Sys2Proof.Machine.execBmi d8 s
  | .bvc d8 => Sys2Proof.Machine.execBvc d8 s
  | .bvs d8 => Sys2Proof.Machine.execBvs d8 s
  | .bcc d8 => Sys2Proof.Machine.execBcc d8 s
  | .bcs d8 => Sys2Proof.Machine.execBcs d8 s
  | .bne d8 => Sys2Proof.Machine.execBne d8 s
  | .beq d8 => Sys2Proof.Machine.execBeq d8 s
  | .jmpAbsolute d16 => Sys2Proof.Machine.execJmpAbsolute d16 s
  | .jmpIndirect d16 => Sys2Proof.Machine.execJmpIndirect d16 s
  | .pha => Sys2Proof.Machine.execPha s
  | .php => Sys2Proof.Machine.execPhp s
  | .pla => Sys2Proof.Machine.execPla s
  | .plp => Sys2Proof.Machine.execPlp s
  | .jsr d16 => Sys2Proof.Machine.execJsr d16 s
  | .rts => Sys2Proof.Machine.execRts s
  | .rti => Sys2Proof.Machine.execRti s
  | .clc => Sys2Proof.Machine.execClc s
  | .sec => Sys2Proof.Machine.execSec s
  | .cli => Sys2Proof.Machine.execCli s
  | .sei => Sys2Proof.Machine.execSei s
  | .cld => Sys2Proof.Machine.execCld s
  | .sed => Sys2Proof.Machine.execSed s
  | .clv => Sys2Proof.Machine.execClv s
  | .brk => Sys2Proof.Machine.execBrk s
  | .nop => Sys2Proof.Machine.execNop s

end Sys2Proof.Machine
end

