-- ==== Sys2Proof/Machine/Fetch.lean ====
section
/-! DEFINITION. Fetching and decoding one instruction (60_exceptions.md R230, 40_addressing.md R100), and laying an instruction
where the next fetch finds it. -/

namespace Sys2Proof.Machine

/-- The opcode byte by `Fetch8()`, then, if it is valid, the operand bytes its mode has by `Fetch8()` each (R85, R230). An
invalid opcode fetches no operand byte. Answers the instruction or the offending opcode, and the state after the fetches. -/
def fetchInstr (s : State) : Except Byte Instr × State :=
  let op := fetch8 s
  match dispatcher op.1 with
  | none => (.error op.1, op.2)
  | some e =>
    let operand := fetchBytes e.operandBytes op.2
    match decode (op.1 :: operand.1) with
    | .ok (i, _) => (.ok i, operand.2)
    | .error _ => (.error op.1, op.2)

/-- Where bytes can be laid for the fetch: at PC, if backing arrays hold all three bytes there, else at the start of ROM. -/
def fetchSite (pc : Addr) : Addr :=
  if backed pc.toNat && backed (pc + 1).toNat && backed (pc + 2).toNat then pc else 0x8000

/-- The host's array accessors put `bytes` at `at0` and the addresses after it (R244). -/
def storeBytes : List Byte → Addr → Memory → Memory
  | [], _, m => m
  | b :: bs, at0, m => storeBytes bs (at0 + 1) (Memory.store m at0.toNat b)

/-- The state in which the bytes lie at the fetch site, PC is there and the core is ready (R232: a halted core fetches nothing). -/
def placeBytes (bytes : List Byte) (s : State) : State :=
  ((s.setMem (storeBytes bytes (fetchSite s.pc) s.mem)).setPc (fetchSite s.pc)).setReady true

end Sys2Proof.Machine
end

