-- ==== Sys2Proof/Machine/Step.lean ====
section
/-! DEFINITION. One step: exactly one instruction (60_exceptions.md R230), nothing on a halted core (R232), the InvalidOpcode
exception on an invalid opcode (R233). -/

namespace Sys2Proof.Machine

def step (s : State) : Host.Outcome State Fault Refusal :=
  if s.ready then
    match fetchInstr s with
    | (.ok i, s') => exec i s'
    | (.error op, s') => .next (takeInvalidOpcode op s.pc s')
  else .next s

/-- The instruction whose bits are `w` (the bits above `nbits` 0, three bytes) laid where the next step fetches it. -/
def State.withFetchWord (s : State) (nbits w : Nat) : State := placeBytes (tableBytes nbits w) s

end Sys2Proof.Machine
end

