-- ==== Sys2Proof/Machine/Accesses.lean ====
section
/-! DEFINITION. The sequence of byte-wide memory accesses one step makes (20_memory.md R69, R65; 60_exceptions.md R230), read off
the rules apart from the meanings, so that the two can be held against each other. State keeps no history (10_state.md R38). -/

namespace Sys2Proof.Machine

/-- One `MemRead` or `MemWrite`, with the address after masking. A discarded write is still an access (R56, R69). -/
inductive Access where
  | read (addr : Nat)
  | write (addr : Nat)
  deriving DecidableEq, Repr

/-- What an instruction does with the byte at `EA(m)` (40_addressing.md R114). -/
inductive MemoryUse where
  | reads
  | stores
  | modifies
  | unused
  deriving DecidableEq, Repr

def Mnemonic.memoryUse : Mnemonic → MemoryUse
  | .LDA | .LDX | .LDY | .ADC | .SBC | .AND | .ORA | .EOR | .BIT | .CMP | .CPX | .CPY => .reads
  | .STA | .STX | .STY => .stores
  | .ASL | .LSR | .ROL | .ROR | .INC | .DEC => .modifies
  | .TAX | .TAY | .TXA | .TYA | .TSX | .TXS | .INX | .INY | .DEX | .DEY | .BPL | .BMI | .BVC | .BVS | .BCC | .BCS | .BNE
  | .BEQ | .JMP | .PHA | .PHP | .PLA | .PLP | .JSR | .RTS | .RTI | .CLC | .SEC | .CLI | .SEI | .CLD | .SED | .CLV | .BRK
  | .NOP => .unused

def MemoryUse.accesses (addr : Nat) : MemoryUse → List Access
  | .reads => [.read addr]
  | .stores => [.write addr]
  | .modifies => [.read addr, .write addr]
  | .unused => []

/-- The pointer reads of the resolver (R115). -/
def pointerReads : MemRef → State → List Access
  | .indexedIndirect d8, s =>
    let zp := (d8.toNat + s.x.toNat) &&& 0xFF
    [.read zp, .read (maskAddr (zpPointerHigh zpPtrWrap zp))]
  | .indirectIndexed d8, _ => [.read d8.toNat, .read (maskAddr (zpPointerHigh zpPtrWrap d8.toNat))]
  | .zeroPage _, _ | .zeroPageX _, _ | .zeroPageY _, _ | .absolute _, _ | .absoluteX _, _ | .absoluteY _, _ => []

/-- The accesses after the instruction bytes are fetched, from the state that has fetched them (R69). -/
def bodyAccesses (i : Instr) (s : State) : List Access :=
  match i.mnemonic, i.operand with
  | .PHA, _ | .PHP, _ => [.write (stackAddr s.sp)]
  | .PLA, _ | .PLP, _ => [.read (stackAddr (s.sp + 1))]
  | .JSR, _ => [.write (stackAddr s.sp), .write (stackAddr (s.sp - 1))]
  | .RTS, _ => [.read (stackAddr (s.sp + 1)), .read (stackAddr (s.sp + 2))]
  | .RTI, _ => [.read (stackAddr (s.sp + 1)), .read (stackAddr (s.sp + 2)), .read (stackAddr (s.sp + 3))]
  | _, .indirect d16 => [.read d16.toNat, .read (maskAddr (jmpPointerHigh indJmpPageWrap d16.toNat))]
  | m, .memory r => pointerReads r s ++ (Mnemonic.memoryUse m).accesses (maskAddr (effectiveAddress r s).1)
  | _, .implied | _, .accumulator | _, .immediate _ | _, .relative _ => []

/-- `n` bytes of the instruction stream read from `pc` on. -/
def streamReads : Nat → Addr → List Access
  | 0, _ => []
  | n + 1, pc => .read pc.toNat :: streamReads n (pc + 1)

/-- The accesses of one step, in order: none on a halted core (R232), the opcode alone if it is invalid (R233). -/
def accesses (s : State) : List Access :=
  if s.ready then
    match fetchInstr s with
    | (.ok i, s') => streamReads i.length s.pc ++ bodyAccesses i s'
    | (.error _, _) => streamReads 1 s.pc
  else []

end Sys2Proof.Machine
end

