-- ==== Sys2Proof/Machine/HostAccess.lean ====
section
/-! DEFINITION. The host's accessors, between steps only (60_exceptions.md R244, R245): registers masked to their width, and the
backing arrays by offset, past the core's read and write policy. They take no draw. An offset outside an array names no byte:
the setter changes nothing and the getter answers none (DESIGN CHOICE, notes/assumptions/14.md, safe). -/

namespace Sys2Proof.Machine

def hostSetA (v : Nat) (s : State) : State := s.setA (BitVec.ofNat 8 v)
def hostSetX (v : Nat) (s : State) : State := s.setX (BitVec.ofNat 8 v)
def hostSetY (v : Nat) (s : State) : State := s.setY (BitVec.ofNat 8 v)
def hostSetS (v : Nat) (s : State) : State := s.setSp (BitVec.ofNat 8 v)
def hostSetP (v : Nat) (s : State) : State := s.setP (BitVec.ofNat 8 v)
def hostSetPc (v : Nat) (s : State) : State := s.setPc (BitVec.ofNat 16 v)

/-- The three backing arrays (20_memory.md R51 to R53). -/
inductive BackingArray where
  | RAM
  | SaveRAM
  | ROM
  deriving DecidableEq, Repr

/-- The address of element 0. -/
def BackingArray.base : BackingArray → Nat
  | .RAM => 0x0000
  | .SaveRAM => 0x6000
  | .ROM => 0x8000

/-- `RAM_SIZE`, `SAVERAM_SIZE`, `ROM_SIZE` (00_scope.md R7). -/
def BackingArray.size : BackingArray → Nat
  | .RAM => 8192
  | .SaveRAM => 8192
  | .ROM => 32768

/-- Read one element of a backing array. -/
def hostGet (arr : BackingArray) (off : Nat) (s : State) : Option Byte :=
  if off < arr.size then some (s.byteAt (arr.base + off)) else none

/-- Set one element of a backing array; this is how the ROM and SaveRAM images are loaded (R53, R266). -/
def hostSet (arr : BackingArray) (off : Nat) (v : Byte) (s : State) : State :=
  if off < arr.size then s.setMem (Memory.store s.mem (arr.base + off) v) else s

end Sys2Proof.Machine
end

