-- ==== Sys2Proof/Machine/Lifecycle.lean ====
section
/-! DEFINITION. The two lifecycle actions of the host, between steps only (70_reset_and_hazards.md R260 to R265). -/

namespace Sys2Proof.Machine

/-- `Reset`: PC from the vector at 0xFFFC, `ready` true, `fault` none; nothing else changes (R262, R265). -/
def resetCore (s : State) : State :=
  let v := readWord 0xFFFC s
  ((v.2.setPc v.1).setReady true).setFault none

/-- `PowerOn`: A, X, Y, S, P, PC (overwritten by the reset vector) and every RAM byte from `Rand()`, SaveRAM and ROM untouched,
then `Reset` (R260). The RAM bytes are 8192 draws, of which RAM[i] is draw `ramDraw + i`; no RAM cell stays listed. -/
def powerOn (s : State) : State :=
  let n := s.draws
  resetCore
    { s with
      a := Config.randByte n
      x := Config.randByte (n + 1)
      y := Config.randByte (n + 2)
      sp := Config.randByte (n + 3)
      p := Config.randByte (n + 4)
      pc := joinBytes (Config.randByte (n + 5)) (Config.randByte (n + 6))
      mem := Memory.withoutRam s.mem
      ramDraw := n + 7
      draws := n + 7 + 8192 }

end Sys2Proof.Machine
end

