-- ==== Sys2Proof/Machine/Run.lean ====
section
/-! DEFINITION. The outcome a step reports to the host (60_exceptions.md R230) and the run loop, under fuel (R231). -/

namespace Sys2Proof.Machine

/-- `Continue`, `Halted` or `Fault` (R230). -/
inductive Report where
  | continued
  | halted
  | faulted
  deriving DecidableEq, Repr

/-- What `Step` returns beside the next state: `Halted` on a halted core (R232), `Fault` on InvalidOpcode (R233), and after a
valid instruction `Continue` exactly when `ready` is still true (R230). No arm of exec stops, so the last line is not reached. -/
def report (s : State) : Report :=
  if s.ready then
    match fetchInstr s with
    | (.error _, _) => .faulted
    | (.ok i, s') =>
      match exec i s' with
      | .next t => if t.ready then .continued else .halted
      | .fault _ | .refused _ => .faulted
  else .halted

/-- `Run`: `while ready: Step()`, at most `fuel` steps (R231, R272). -/
def runLoop : Nat → State → Result
  | 0, s => .next s
  | fuel + 1, s =>
    if s.ready then
      match step s with
      | .next t => runLoop fuel t
      | .fault r => .fault r
      | .refused r => .refused r
    else .next s

end Sys2Proof.Machine
end

