-- ==== Sys2Proof/Safety.lean ====
section
/-! DEFINITION. The terms claims are stated in: the invariant of the machine, what a flag update, a store and an encoding are,
the effect of each shape of instruction, and who may write which register and flag (10_state.md R22, R26, R28). -/

namespace Sys2Proof.Machine

/-- What every step keeps: memory is in its canonical form, and a latched report means a halted core with PC at an opcode that
is invalid (60_exceptions.md R233). -/
abbrev Inv (s : State) : Prop :=
  Memory.wf s.mem ∧
    match s.fault with
    | none => True
    | some r => s.ready = false ∧ s.pc = r.address ∧ (dispatcher r.opcode).isNone = true

/-- A safe run: every step of it has a next state and none reports `Fault` (R230). -/
def SafeFor : Nat → State → Prop
  | 0, _ => True
  | n + 1, s => report s ≠ .faulted ∧ ∃ t, step s = .next t ∧ SafeFor n t

/-- Core writes to the address are stored: RAM and SaveRAM (20_memory.md R56). -/
abbrev Stores (addr : Nat) : Prop := addr ≤ 0x1FFF ∨ (0x6000 ≤ addr ∧ addr ≤ 0x7FFF)

/-- Every byte reads as before but those `changed` names. 0x2000 is left out: each read of it is a fresh draw (R57). -/
def BytesKept (s t : State) (changed : Nat → Prop) : Prop :=
  ∀ addr, addr < 0x10000 → addr ≠ 0x2000 → ¬ changed addr → t.byteAt addr = s.byteAt addr

/-- The one byte stored is `v` at `ea`: it lands if the address is RAM or SaveRAM and is discarded otherwise (R56). -/
def StoredOnly (s t : State) (ea : Nat) (v : Byte) : Prop :=
  (Stores ea → t.byteAt ea = v) ∧ BytesKept s t (fun addr => addr = ea ∧ Stores ea)

/-- `p'` is `p` with exactly the listed flags written (R28: every other bit of P is unchanged). -/
def FlagsSet (p p' : Byte) (l : List (Flag × Bool)) : Prop :=
  ∀ f, getFlag f p' = (l.lookup f).getD (getFlag f p)

/-- N and Z of a result (R31). -/
def nzOf (v : Byte) : List (Flag × Bool) := [(.N, v.getLsbD 7), (.Z, v == 0)]

/-- The bytes are the instruction's encoding, and the decoder reads them as it, whatever follows (30_encoding.md R81, R86). -/
def EncodedAs (i : Instr) (bytes : List Byte) : Prop :=
  encode i = bytes ∧ ∀ rest, decode (bytes ++ rest) = .ok (i, rest)

/-- The operand byte a source gives in this state (40_addressing.md R114). -/
def operandOf (src : Source) (s : State) : Byte := (readOperand src s).1

/-- The draw counter after the source is read; no other state changes in a read (R55). -/
def drawsAfter (src : Source) (s : State) : Nat := (readOperand src s).2.draws

/-- The address, masked, that a memory operand names in this state (R108: masked at the access). -/
def addressOf (r : MemRef) (s : State) : Nat := maskAddr (effectiveAddress r s).1

/-- An implied instruction that writes one register, with N and Z from the value (R121 to R125, R173 to R176). -/
def WritesRegNZ (set : State → Byte → State) (v : State → Byte) (i : Instr) : Prop :=
  ∀ s, ∃ p', exec i s = .next { set s (v s) with p := p' } ∧ FlagsSet s.p p' (nzOf (v s))

/-- `reg <- f(A, Operand(m)); SetNZ(reg)` (R127 to R129, R151 to R153). -/
def LoadsNZ (set : State → Byte → State) (f : Byte → Byte → Byte) (i : Instr) (src : Source) : Prop :=
  ∀ s, ∃ p',
    exec i s = .next { set s (f s.a (operandOf src s)) with p := p', draws := drawsAfter src s } ∧
    FlagsSet s.p p' (nzOf (f s.a (operandOf src s)))

/-- `MemWrite(EA(m), 1, v)`: one byte stored, no flag, no register (R130 to R132). -/
def StoresReg (v : State → Byte) (i : Instr) (r : MemRef) : Prop :=
  ∀ s, ∃ t, exec i s = .next t ∧
    t = { s with mem := t.mem } ∧ StoredOnly s t (addressOf r s) (v s)

/-- ADC: the unmasked sum, Carry from it, A masked, N and Z from A; V from the signed sum if `writeV` (R142, R144). -/
def AddsWithCarry (writeV : Bool) (run : State → Result) (src : Source) : Prop :=
  ∀ s,
    let c := getFlag .C s.p
    let m := operandOf src s
    let sum := s.a.toNat + m.toNat + c.toNat
    let signed := sext8 s.a + sext8 m + c.toNat
    ∃ a' p',
      run s = .next { s with a := a', p := p', draws := drawsAfter src s } ∧ a'.toNat = sum % 256 ∧
      FlagsSet s.p p' ([(.C, decide (sum > 255))] ++ nzOf a' ++
        if writeV then [(.V, decide (signed < -128 ∨ signed > 127))] else [])

/-- SBC: the unmasked difference, Carry 1 for no borrow, A modulo 256, N and Z from A; V if `writeV` (R143, R144). -/
def SubtractsWithCarry (writeV : Bool) (run : State → Result) (src : Source) : Prop :=
  ∀ s,
    let c := getFlag .C s.p
    let m := operandOf src s
    let diff := (s.a.toNat : Int) - m.toNat - (1 - (c.toNat : Int))
    let signed := sext8 s.a - sext8 m - (1 - (c.toNat : Int))
    ∃ a' p',
      run s = .next { s with a := a', p := p', draws := drawsAfter src s } ∧ (a'.toNat : Int) = diff % 256 ∧
      FlagsSet s.p p' ([(.C, decide (diff ≥ 0))] ++ nzOf a' ++
        if writeV then [(.V, decide (signed < -128 ∨ signed > 127))] else [])

/-- BIT: Z from A & M, N and V from bits 7 and 6 of M; A and memory unchanged (R154). -/
def TestsBits (i : Instr) (r : MemRef) : Prop :=
  ∀ s, ∃ p', exec i s = .next { s with p := p', draws := drawsAfter (.memory r) s } ∧
    FlagsSet s.p p'
      [(.Z, s.a &&& operandOf (.memory r) s == 0), (.N, (operandOf (.memory r) s).getLsbD 7),
        (.V, (operandOf (.memory r) s).getLsbD 6)]

/-- A shift or rotate of A: `result` and `carry` as numbers, from the byte and the old Carry (R160 to R164). -/
def ShiftsA (result : Nat → Nat → Nat) (carry : Nat → Bool) (i : Instr) : Prop :=
  ∀ s, ∃ a' p', exec i s = .next { s with a := a', p := p' } ∧
    a'.toNat = result s.a.toNat (getFlag .C s.p).toNat ∧
    FlagsSet s.p p' ((.C, carry s.a.toNat) :: nzOf a')

/-- A shift or rotate of a byte of memory: read, flags from the result, written back (R160 to R164, R114). -/
def ShiftsMemory (result : Nat → Nat → Nat) (carry : Nat → Bool) (i : Instr) (r : MemRef) : Prop :=
  ∀ s, ∃ v t, exec i s = .next t ∧
    t = { s with mem := t.mem, p := t.p, draws := drawsAfter (.memory r) s } ∧
    v.toNat = result (operandOf (.memory r) s).toNat (getFlag .C s.p).toNat ∧
    FlagsSet s.p t.p ((.C, carry (operandOf (.memory r) s).toNat) :: nzOf v) ∧ StoredOnly s t (addressOf r s) v

/-- INC and DEC: the byte plus `delta` modulo 256, N and Z from it, written back; Carry untouched (R170 to R172). -/
def AddsToMemory (delta : Nat) (i : Instr) (r : MemRef) : Prop :=
  ∀ s, ∃ v t, exec i s = .next t ∧
    t = { s with mem := t.mem, p := t.p, draws := drawsAfter (.memory r) s } ∧
    v.toNat = ((operandOf (.memory r) s).toNat + delta) % 256 ∧
    FlagsSet s.p t.p (nzOf v) ∧ StoredOnly s t (addressOf r s) v

/-- `Compare(reg, Operand(m))`: unsigned C and Z, N from bit 7 of the difference modulo 256; no register changes (R180). -/
def Compares (reg : State → Byte) (i : Instr) (src : Source) : Prop :=
  ∀ s,
    let m := operandOf src s
    ∃ p', exec i s = .next { s with p := p', draws := drawsAfter src s } ∧
      FlagsSet s.p p'
        [(.C, decide ((reg s).toNat ≥ m.toNat)), (.Z, decide (reg s = m)),
          (.N, decide (128 ≤ ((reg s).toNat + 256 - m.toNat) % 256))]

/-- `Branch(P.f == b)`: PC moves by the signed displacement, modulo 65536, exactly when the flag holds `b` (R190). -/
def BranchesWhen (f : Flag) (b : Bool) (op : Byte) (mk : Byte → Instr) : Prop :=
  ∀ d8, EncodedAs (mk d8) [op, d8] ∧
    ∀ s, ∃ pc', exec (mk d8) s = .next { s with pc := pc' } ∧
      (getFlag f s.p = b →
        (pc'.toNat : Int) = ((s.pc.toNat : Int) + if d8.toNat < 128 then (d8.toNat : Int) else d8.toNat - 256) % 65536) ∧
      (getFlag f s.p ≠ b → pc' = s.pc)

/-- One flag written, nothing else (R210). -/
def SetsFlag (f : Flag) (b : Bool) (i : Instr) : Prop :=
  ∀ s, ∃ p', exec i s = .next { s with p := p' } ∧ FlagsSet s.p p' [(f, b)]

/-- Who writes A (R22). -/
def writesA (i : Instr) : Bool :=
  [.LDA, .TXA, .TYA, .PLA, .ADC, .SBC, .AND, .ORA, .EOR].contains i.mnemonic || i.operand == .accumulator

/-- Who writes X (R22). -/
def writesX (i : Instr) : Bool := [.LDX, .TAX, .TSX, .INX, .DEX].contains i.mnemonic

/-- Who writes Y (R22). -/
def writesY (i : Instr) : Bool := [.LDY, .TAY, .INY, .DEY].contains i.mnemonic

/-- Who writes S (R22). -/
def writesS (i : Instr) : Bool := [.TXS, .PHA, .PHP, .PLA, .PLP, .JSR, .RTS, .RTI].contains i.mnemonic

/-- Who writes PC other than by `Fetch8()` (R26). -/
def writesPc (i : Instr) : Bool :=
  [.BPL, .BMI, .BVC, .BVS, .BCC, .BCS, .BNE, .BEQ, .JMP, .JSR, .RTS, .RTI].contains i.mnemonic

/-- The users of `SetNZ` (R28). -/
def setsNZ (i : Instr) : Bool :=
  [.LDA, .LDX, .LDY, .TAX, .TAY, .TXA, .TYA, .TSX, .PLA, .ADC, .SBC, .AND, .ORA, .EOR, .ASL, .LSR, .ROL, .ROR, .INC, .DEC,
    .INX, .INY, .DEX, .DEY].contains i.mnemonic

/-- Who writes each flag (R28, with the parameters' values of this hardware). -/
def writesFlag (i : Instr) (f : Flag) : Bool :=
  [.PLP, .RTI].contains i.mnemonic ||
    match f with
    | .C => [.ADC, .SBC, .ASL, .LSR, .ROL, .ROR, .CMP, .CPX, .CPY, .CLC, .SEC].contains i.mnemonic
    | .Z | .N => setsNZ i || [.CMP, .CPX, .CPY, .BIT].contains i.mnemonic
    | .I => [.SEI, .CLI].contains i.mnemonic
    | .D => [.SED, .CLD].contains i.mnemonic
    | .V => [.CLV, .BIT].contains i.mnemonic
    | .B | .U => false

/-- The reads of the placeholder register in a list of accesses: each takes one draw (R55, R57). -/
def placeholderReads (l : List Access) : Nat := l.count (.read 0x2000)

/-- The addresses a list of accesses writes. -/
def writtenIn (l : List Access) (addr : Nat) : Prop := Access.write addr ∈ l

/-- The byte an instruction writes at its memory operand, if it writes there (R130 to R132, R161 to R164, R171, R172). -/
def storedValue (m : Mnemonic) (r : MemRef) (s : State) : Option Byte :=
  let v := (operandOf (.memory r) s).toNat
  let c := (getFlag .C s.p).toNat
  match m with
  | .STA => some s.a
  | .STX => some s.x
  | .STY => some s.y
  | .ASL => some (BitVec.ofNat 8 (2 * v))
  | .LSR => some (BitVec.ofNat 8 (v / 2))
  | .ROL => some (BitVec.ofNat 8 (2 * v + c))
  | .ROR => some (BitVec.ofNat 8 (v / 2 + 128 * c))
  | .INC => some (BitVec.ofNat 8 (v + 1))
  | .DEC => some (BitVec.ofNat 8 (v + 255))
  | .LDA | .LDX | .LDY | .ADC | .SBC | .AND | .ORA | .EOR | .BIT | .CMP | .CPX | .CPY | .TAX | .TAY | .TXA | .TYA | .TSX
  | .TXS | .INX | .INY | .DEX | .DEY | .BPL | .BMI | .BVC | .BVS | .BCC | .BCS | .BNE | .BEQ | .JMP | .PHA | .PHP | .PLA
  | .PLP | .JSR | .RTS | .RTI | .CLC | .SEC | .CLI | .SEI | .CLD | .SED | .CLV | .BRK | .NOP => none

/-- The addresses an instruction writes with the byte it writes at each, from the state that has fetched it: a memory operand,
or the stack (R200, R201, R204). -/
def storedBytes (i : Instr) (s : State) : List (Nat × Byte) :=
  match i.mnemonic, i.operand with
  | .PHA, _ => [(0x100 + s.sp.toNat, s.a)]
  | .PHP, _ => [(0x100 + s.sp.toNat, s.p ||| 0x30)]
  | .JSR, _ => [(0x100 + s.sp.toNat, highByte (s.pc - 1)), (0x100 + (s.sp - 1).toNat, lowByte (s.pc - 1))]
  | m, .memory r => ((storedValue m r s).map fun v => (addressOf r s, v)).toList
  | _, .implied | _, .accumulator | _, .immediate _ | _, .relative _ | _, .indirect _ => []

/-- The three bytes at PC, as a fetch would read them now. -/
def bytesAtPc (s : State) : List Byte :=
  [s.byteAt s.pc.toNat, s.byteAt (s.pc.toNat + 1), s.byteAt (s.pc.toNat + 2)]

/-- The state after `n` bytes of the instruction stream are fetched: PC past them, one draw for each at 0x2000 (R24). -/
def afterFetch (n : Nat) (s : State) : State :=
  { s with pc := s.pc + BitVec.ofNat 16 n, draws := s.draws + placeholderReads (streamReads n s.pc) }

/-- The bytes pushed one after another (10_state.md R32). -/
def pushAll : List Byte → State → State
  | [], s => s
  | v :: vs, s => pushAll vs (push8 v s)

/-- `n` bytes pulled one after another (10_state.md R33). -/
def pullAll : Nat → State → List Byte × State
  | 0, s => ([], s)
  | n + 1, s =>
    let v := pull8 s
    let vs := pullAll n v.2
    (v.1 :: vs.1, vs.2)

/-- The same state but for bits 4 (B) and 5 (U) of P (R40). -/
def SameButBU (s t : State) : Prop := t = { s with p := t.p } ∧ t.p &&& 0xCF = s.p &&& 0xCF

end Sys2Proof.Machine
end

