-- ==== Sys2Proof/Certificates/Slice0/Obligations.lean ====
section
/-! DEFINITION. The obligations: what the spec's rules say of the machine, as propositions. None is proved here.
EncodedAs says an encoding both ways (encoder and decoder). A statement about a read of 0x2000 or about a power-on byte holds
for every value of the draws: Config.randByte is a free constant. -/

open Sys2Proof Sys2Proof.Machine

/-- TAX, TAY, TXA, TYA, TSX copy a register and set N and Z from it.
Rests on R121, R122, R123, R124, R125. -/
def Obligations.TransfersCopyAndSetNZ : Prop :=
  (EncodedAs .tax [0xAA] ∧ WritesRegNZ State.setX (·.a) .tax) ∧
  (EncodedAs .tay [0xA8] ∧ WritesRegNZ State.setY (·.a) .tay) ∧
  (EncodedAs .txa [0x8A] ∧ WritesRegNZ State.setA (·.x) .txa) ∧
  (EncodedAs .tya [0x98] ∧ WritesRegNZ State.setA (·.y) .tya) ∧
  (EncodedAs .tsx [0xBA] ∧ WritesRegNZ State.setX (·.sp) .tsx)

/-- TXS copies X to S and writes no flag; N and Z under TXS_UPDATES_NZ.
Rests on R126. -/
def Obligations.TransferXToStackPointer : Prop :=
  EncodedAs .txs [0x9A] ∧ ∀ s,
    exec .txs s = .next { s with sp := s.x } ∧
    ∃ p', transferXToS true s = { s with sp := s.x, p := p' } ∧ FlagsSet s.p p' (nzOf s.x)

/-- LDA, LDX, LDY load the operand and set N and Z, in all 18 forms.
Rests on R127, R128, R129. -/
def Obligations.LoadsPutOperandInRegister : Prop :=
  (∀ d8, EncodedAs (.ldaImmediate d8) [0xA9, d8] ∧ LoadsNZ State.setA (fun _ m => m) (.ldaImmediate d8) (.immediate d8)) ∧
  (∀ d8, EncodedAs (.ldaZeroPage d8) [0xA5, d8] ∧ LoadsNZ State.setA (fun _ m => m) (.ldaZeroPage d8) (.memory (.zeroPage d8))) ∧
  (∀ d8, EncodedAs (.ldaZeroPageX d8) [0xB5, d8] ∧ LoadsNZ State.setA (fun _ m => m) (.ldaZeroPageX d8) (.memory (.zeroPageX d8))) ∧
  (∀ d16, EncodedAs (.ldaAbsolute d16) [0xAD, lowByte d16, highByte d16] ∧ LoadsNZ State.setA (fun _ m => m) (.ldaAbsolute d16) (.memory (.absolute d16))) ∧
  (∀ d16, EncodedAs (.ldaAbsoluteX d16) [0xBD, lowByte d16, highByte d16] ∧ LoadsNZ State.setA (fun _ m => m) (.ldaAbsoluteX d16) (.memory (.absoluteX d16))) ∧
  (∀ d16, EncodedAs (.ldaAbsoluteY d16) [0xB9, lowByte d16, highByte d16] ∧ LoadsNZ State.setA (fun _ m => m) (.ldaAbsoluteY d16) (.memory (.absoluteY d16))) ∧
  (∀ d8, EncodedAs (.ldaIndexedIndirect d8) [0xA1, d8] ∧ LoadsNZ State.setA (fun _ m => m) (.ldaIndexedIndirect d8) (.memory (.indexedIndirect d8))) ∧
  (∀ d8, EncodedAs (.ldaIndirectIndexed d8) [0xB1, d8] ∧ LoadsNZ State.setA (fun _ m => m) (.ldaIndirectIndexed d8) (.memory (.indirectIndexed d8))) ∧
  (∀ d8, EncodedAs (.ldxImmediate d8) [0xA2, d8] ∧ LoadsNZ State.setX (fun _ m => m) (.ldxImmediate d8) (.immediate d8)) ∧
  (∀ d8, EncodedAs (.ldxZeroPage d8) [0xA6, d8] ∧ LoadsNZ State.setX (fun _ m => m) (.ldxZeroPage d8) (.memory (.zeroPage d8))) ∧
  (∀ d8, EncodedAs (.ldxZeroPageY d8) [0xB6, d8] ∧ LoadsNZ State.setX (fun _ m => m) (.ldxZeroPageY d8) (.memory (.zeroPageY d8))) ∧
  (∀ d16, EncodedAs (.ldxAbsolute d16) [0xAE, lowByte d16, highByte d16] ∧ LoadsNZ State.setX (fun _ m => m) (.ldxAbsolute d16) (.memory (.absolute d16))) ∧
  (∀ d16, EncodedAs (.ldxAbsoluteY d16) [0xBE, lowByte d16, highByte d16] ∧ LoadsNZ State.setX (fun _ m => m) (.ldxAbsoluteY d16) (.memory (.absoluteY d16))) ∧
  (∀ d8, EncodedAs (.ldyImmediate d8) [0xA0, d8] ∧ LoadsNZ State.setY (fun _ m => m) (.ldyImmediate d8) (.immediate d8)) ∧
  (∀ d8, EncodedAs (.ldyZeroPage d8) [0xA4, d8] ∧ LoadsNZ State.setY (fun _ m => m) (.ldyZeroPage d8) (.memory (.zeroPage d8))) ∧
  (∀ d8, EncodedAs (.ldyZeroPageX d8) [0xB4, d8] ∧ LoadsNZ State.setY (fun _ m => m) (.ldyZeroPageX d8) (.memory (.zeroPageX d8))) ∧
  (∀ d16, EncodedAs (.ldyAbsolute d16) [0xAC, lowByte d16, highByte d16] ∧ LoadsNZ State.setY (fun _ m => m) (.ldyAbsolute d16) (.memory (.absolute d16))) ∧
  (∀ d16, EncodedAs (.ldyAbsoluteX d16) [0xBC, lowByte d16, highByte d16] ∧ LoadsNZ State.setY (fun _ m => m) (.ldyAbsoluteX d16) (.memory (.absoluteX d16)))

/-- STA, STX, STY store one byte at the effective address and change nothing else, in all 13 forms.
Rests on R130, R131, R132. -/
def Obligations.StoresWriteOneByte : Prop :=
  (∀ d8, EncodedAs (.staZeroPage d8) [0x85, d8] ∧ StoresReg (·.a) (.staZeroPage d8) (.zeroPage d8)) ∧
  (∀ d8, EncodedAs (.staZeroPageX d8) [0x95, d8] ∧ StoresReg (·.a) (.staZeroPageX d8) (.zeroPageX d8)) ∧
  (∀ d16, EncodedAs (.staAbsolute d16) [0x8D, lowByte d16, highByte d16] ∧ StoresReg (·.a) (.staAbsolute d16) (.absolute d16)) ∧
  (∀ d16, EncodedAs (.staAbsoluteX d16) [0x9D, lowByte d16, highByte d16] ∧ StoresReg (·.a) (.staAbsoluteX d16) (.absoluteX d16)) ∧
  (∀ d16, EncodedAs (.staAbsoluteY d16) [0x99, lowByte d16, highByte d16] ∧ StoresReg (·.a) (.staAbsoluteY d16) (.absoluteY d16)) ∧
  (∀ d8, EncodedAs (.staIndexedIndirect d8) [0x81, d8] ∧ StoresReg (·.a) (.staIndexedIndirect d8) (.indexedIndirect d8)) ∧
  (∀ d8, EncodedAs (.staIndirectIndexed d8) [0x91, d8] ∧ StoresReg (·.a) (.staIndirectIndexed d8) (.indirectIndexed d8)) ∧
  (∀ d8, EncodedAs (.stxZeroPage d8) [0x86, d8] ∧ StoresReg (·.x) (.stxZeroPage d8) (.zeroPage d8)) ∧
  (∀ d8, EncodedAs (.stxZeroPageY d8) [0x96, d8] ∧ StoresReg (·.x) (.stxZeroPageY d8) (.zeroPageY d8)) ∧
  (∀ d16, EncodedAs (.stxAbsolute d16) [0x8E, lowByte d16, highByte d16] ∧ StoresReg (·.x) (.stxAbsolute d16) (.absolute d16)) ∧
  (∀ d8, EncodedAs (.styZeroPage d8) [0x84, d8] ∧ StoresReg (·.y) (.styZeroPage d8) (.zeroPage d8)) ∧
  (∀ d8, EncodedAs (.styZeroPageX d8) [0x94, d8] ∧ StoresReg (·.y) (.styZeroPageX d8) (.zeroPageX d8)) ∧
  (∀ d16, EncodedAs (.styAbsolute d16) [0x8C, lowByte d16, highByte d16] ∧ StoresReg (·.y) (.styAbsolute d16) (.absolute d16))

/-- ADC: unmasked sum, Carry, masked A, N and Z, V only under the parameter, in all 8 forms.
Rests on R142. -/
def Obligations.AddWithCarryResult : Prop :=
  (∀ d8, EncodedAs (.adcImmediate d8) [0x69, d8] ∧ AddsWithCarry false (exec (.adcImmediate d8)) (.immediate d8)) ∧
  (∀ d8, EncodedAs (.adcZeroPage d8) [0x65, d8] ∧ AddsWithCarry false (exec (.adcZeroPage d8)) (.memory (.zeroPage d8))) ∧
  (∀ d8, EncodedAs (.adcZeroPageX d8) [0x75, d8] ∧ AddsWithCarry false (exec (.adcZeroPageX d8)) (.memory (.zeroPageX d8))) ∧
  (∀ d16, EncodedAs (.adcAbsolute d16) [0x6D, lowByte d16, highByte d16] ∧ AddsWithCarry false (exec (.adcAbsolute d16)) (.memory (.absolute d16))) ∧
  (∀ d16, EncodedAs (.adcAbsoluteX d16) [0x7D, lowByte d16, highByte d16] ∧ AddsWithCarry false (exec (.adcAbsoluteX d16)) (.memory (.absoluteX d16))) ∧
  (∀ d16, EncodedAs (.adcAbsoluteY d16) [0x79, lowByte d16, highByte d16] ∧ AddsWithCarry false (exec (.adcAbsoluteY d16)) (.memory (.absoluteY d16))) ∧
  (∀ d8, EncodedAs (.adcIndexedIndirect d8) [0x61, d8] ∧ AddsWithCarry false (exec (.adcIndexedIndirect d8)) (.memory (.indexedIndirect d8))) ∧
  (∀ d8, EncodedAs (.adcIndirectIndexed d8) [0x71, d8] ∧ AddsWithCarry false (exec (.adcIndirectIndexed d8)) (.memory (.indirectIndexed d8))) ∧
  ∀ src, AddsWithCarry true (fun s => .next (addWithCarry true src s)) src

/-- SBC: unmasked difference, Carry 1 for no borrow, masked A, N and Z, in all 8 forms.
Rests on R143. -/
def Obligations.SubtractWithCarryResult : Prop :=
  (∀ d8, EncodedAs (.sbcImmediate d8) [0xE9, d8] ∧ SubtractsWithCarry false (exec (.sbcImmediate d8)) (.immediate d8)) ∧
  (∀ d8, EncodedAs (.sbcZeroPage d8) [0xE5, d8] ∧ SubtractsWithCarry false (exec (.sbcZeroPage d8)) (.memory (.zeroPage d8))) ∧
  (∀ d8, EncodedAs (.sbcZeroPageX d8) [0xF5, d8] ∧ SubtractsWithCarry false (exec (.sbcZeroPageX d8)) (.memory (.zeroPageX d8))) ∧
  (∀ d16, EncodedAs (.sbcAbsolute d16) [0xED, lowByte d16, highByte d16] ∧ SubtractsWithCarry false (exec (.sbcAbsolute d16)) (.memory (.absolute d16))) ∧
  (∀ d16, EncodedAs (.sbcAbsoluteX d16) [0xFD, lowByte d16, highByte d16] ∧ SubtractsWithCarry false (exec (.sbcAbsoluteX d16)) (.memory (.absoluteX d16))) ∧
  (∀ d16, EncodedAs (.sbcAbsoluteY d16) [0xF9, lowByte d16, highByte d16] ∧ SubtractsWithCarry false (exec (.sbcAbsoluteY d16)) (.memory (.absoluteY d16))) ∧
  (∀ d8, EncodedAs (.sbcIndexedIndirect d8) [0xE1, d8] ∧ SubtractsWithCarry false (exec (.sbcIndexedIndirect d8)) (.memory (.indexedIndirect d8))) ∧
  (∀ d8, EncodedAs (.sbcIndirectIndexed d8) [0xF1, d8] ∧ SubtractsWithCarry false (exec (.sbcIndirectIndexed d8)) (.memory (.indirectIndexed d8))) ∧
  ∀ src, SubtractsWithCarry true (fun s => .next (subtractWithCarry true src s)) src

/-- The two overflow formulas say that the true signed result is out of range.
Rests on R144. -/
def Obligations.OverflowFormulasAreSignedRange : Prop :=
  ∀ (a m p : Byte) (c : Bool),
    overflowAdd a m (adcResult a m c) =
        decide (sext8 a + sext8 m + c.toNat < -128 ∨ sext8 a + sext8 m + c.toNat > 127) ∧
      overflowSub a m (sbcResult a m c) =
        decide (sext8 a - sext8 m - (1 - (c.toNat : Int)) < -128 ∨ sext8 a - sext8 m - (1 - (c.toNat : Int)) > 127) ∧
      (∀ r, overflowAdd a m r = decide ((a ^^^ r) &&& (m ^^^ r) &&& 0x80 ≠ 0)) ∧
      (∀ r, overflowSub a m r = decide ((a ^^^ r) &&& (a ^^^ m) &&& 0x80 ≠ 0)) ∧
      getFlag .V (adcStatus false a m p) = getFlag .V p ∧ getFlag .V (sbcStatus false a m p) = getFlag .V p ∧
      getFlag .V (adcStatus true a m p) = overflowAdd a m (adcResult a m (getFlag .C p)) ∧
      getFlag .V (sbcStatus true a m p) = overflowSub a m (sbcResult a m (getFlag .C p))

/-- SBC with operand M is ADC with operand M ^ 0xFF.
Rests on R146. -/
def Obligations.SubtractIsAddOfComplement : Prop :=
  (∀ (a m p : Byte) (c writeV : Bool),
    sbcDiff a m c = (adcSum a (m ^^^ 0xFF) c : Int) - 256 ∧
      (sbcDiff a m c ≥ 0 ↔ adcSum a (m ^^^ 0xFF) c > 255) ∧
      sbcResult a m c = adcResult a (m ^^^ 0xFF) c ∧
      overflowSub a m (sbcResult a m c) = overflowAdd a (m ^^^ 0xFF) (adcResult a (m ^^^ 0xFF) c) ∧
      sbcStatus writeV a m p = adcStatus writeV a (m ^^^ 0xFF) p) ∧
  ∀ (d8 : Byte) (s : State), exec (.sbcImmediate d8) s = exec (.adcImmediate (d8 ^^^ 0xFF)) s

/-- ADC and SBC do the same whatever the Decimal flag holds.
Rests on 42_arithmetic.md R141. -/
def Obligations.DecimalFlagIsInert : Prop :=
  ∀ (i : Instr) (s : State) (b : Bool), i.mnemonic = .ADC ∨ i.mnemonic = .SBC →
    ∃ t, exec i s = .next t ∧ exec i { s with p := setFlag .D b s.p } = .next { t with p := setFlag .D b t.p }

/-- AND, ORA, EOR combine A with the operand bit by bit and set N and Z, in all 24 forms.
Rests on R151, R152, R153. -/
def Obligations.LogicalResults : Prop :=
  (∀ d8, EncodedAs (.andImmediate d8) [0x29, d8] ∧ LoadsNZ State.setA (· &&& ·) (.andImmediate d8) (.immediate d8)) ∧
  (∀ d8, EncodedAs (.andZeroPage d8) [0x25, d8] ∧ LoadsNZ State.setA (· &&& ·) (.andZeroPage d8) (.memory (.zeroPage d8))) ∧
  (∀ d8, EncodedAs (.andZeroPageX d8) [0x35, d8] ∧ LoadsNZ State.setA (· &&& ·) (.andZeroPageX d8) (.memory (.zeroPageX d8))) ∧
  (∀ d16, EncodedAs (.andAbsolute d16) [0x2D, lowByte d16, highByte d16] ∧ LoadsNZ State.setA (· &&& ·) (.andAbsolute d16) (.memory (.absolute d16))) ∧
  (∀ d16, EncodedAs (.andAbsoluteX d16) [0x3D, lowByte d16, highByte d16] ∧ LoadsNZ State.setA (· &&& ·) (.andAbsoluteX d16) (.memory (.absoluteX d16))) ∧
  (∀ d16, EncodedAs (.andAbsoluteY d16) [0x39, lowByte d16, highByte d16] ∧ LoadsNZ State.setA (· &&& ·) (.andAbsoluteY d16) (.memory (.absoluteY d16))) ∧
  (∀ d8, EncodedAs (.andIndexedIndirect d8) [0x21, d8] ∧ LoadsNZ State.setA (· &&& ·) (.andIndexedIndirect d8) (.memory (.indexedIndirect d8))) ∧
  (∀ d8, EncodedAs (.andIndirectIndexed d8) [0x31, d8] ∧ LoadsNZ State.setA (· &&& ·) (.andIndirectIndexed d8) (.memory (.indirectIndexed d8))) ∧
  (∀ d8, EncodedAs (.oraImmediate d8) [0x09, d8] ∧ LoadsNZ State.setA (· ||| ·) (.oraImmediate d8) (.immediate d8)) ∧
  (∀ d8, EncodedAs (.oraZeroPage d8) [0x05, d8] ∧ LoadsNZ State.setA (· ||| ·) (.oraZeroPage d8) (.memory (.zeroPage d8))) ∧
  (∀ d8, EncodedAs (.oraZeroPageX d8) [0x15, d8] ∧ LoadsNZ State.setA (· ||| ·) (.oraZeroPageX d8) (.memory (.zeroPageX d8))) ∧
  (∀ d16, EncodedAs (.oraAbsolute d16) [0x0D, lowByte d16, highByte d16] ∧ LoadsNZ State.setA (· ||| ·) (.oraAbsolute d16) (.memory (.absolute d16))) ∧
  (∀ d16, EncodedAs (.oraAbsoluteX d16) [0x1D, lowByte d16, highByte d16] ∧ LoadsNZ State.setA (· ||| ·) (.oraAbsoluteX d16) (.memory (.absoluteX d16))) ∧
  (∀ d16, EncodedAs (.oraAbsoluteY d16) [0x19, lowByte d16, highByte d16] ∧ LoadsNZ State.setA (· ||| ·) (.oraAbsoluteY d16) (.memory (.absoluteY d16))) ∧
  (∀ d8, EncodedAs (.oraIndexedIndirect d8) [0x01, d8] ∧ LoadsNZ State.setA (· ||| ·) (.oraIndexedIndirect d8) (.memory (.indexedIndirect d8))) ∧
  (∀ d8, EncodedAs (.oraIndirectIndexed d8) [0x11, d8] ∧ LoadsNZ State.setA (· ||| ·) (.oraIndirectIndexed d8) (.memory (.indirectIndexed d8))) ∧
  (∀ d8, EncodedAs (.eorImmediate d8) [0x49, d8] ∧ LoadsNZ State.setA (· ^^^ ·) (.eorImmediate d8) (.immediate d8)) ∧
  (∀ d8, EncodedAs (.eorZeroPage d8) [0x45, d8] ∧ LoadsNZ State.setA (· ^^^ ·) (.eorZeroPage d8) (.memory (.zeroPage d8))) ∧
  (∀ d8, EncodedAs (.eorZeroPageX d8) [0x55, d8] ∧ LoadsNZ State.setA (· ^^^ ·) (.eorZeroPageX d8) (.memory (.zeroPageX d8))) ∧
  (∀ d16, EncodedAs (.eorAbsolute d16) [0x4D, lowByte d16, highByte d16] ∧ LoadsNZ State.setA (· ^^^ ·) (.eorAbsolute d16) (.memory (.absolute d16))) ∧
  (∀ d16, EncodedAs (.eorAbsoluteX d16) [0x5D, lowByte d16, highByte d16] ∧ LoadsNZ State.setA (· ^^^ ·) (.eorAbsoluteX d16) (.memory (.absoluteX d16))) ∧
  (∀ d16, EncodedAs (.eorAbsoluteY d16) [0x59, lowByte d16, highByte d16] ∧ LoadsNZ State.setA (· ^^^ ·) (.eorAbsoluteY d16) (.memory (.absoluteY d16))) ∧
  (∀ d8, EncodedAs (.eorIndexedIndirect d8) [0x41, d8] ∧ LoadsNZ State.setA (· ^^^ ·) (.eorIndexedIndirect d8) (.memory (.indexedIndirect d8))) ∧
  (∀ d8, EncodedAs (.eorIndirectIndexed d8) [0x51, d8] ∧ LoadsNZ State.setA (· ^^^ ·) (.eorIndirectIndexed d8) (.memory (.indirectIndexed d8)))

/-- BIT: Z from A & M, N and V copied from M; A and memory unchanged.
Rests on R154. -/
def Obligations.BitTestFlags : Prop :=
  (∀ d8, EncodedAs (.bitZeroPage d8) [0x24, d8] ∧ TestsBits (.bitZeroPage d8) (.zeroPage d8)) ∧
  (∀ d16, EncodedAs (.bitAbsolute d16) [0x2C, lowByte d16, highByte d16] ∧ TestsBits (.bitAbsolute d16) (.absolute d16))

/-- ASL A, LSR A, ROL A, ROR A: result, Carry out, N and Z, no memory access.
Rests on 44_shift_rotate.md R160, 44_shift_rotate.md R161 to R164. -/
def Obligations.ShiftsOfAccumulator : Prop :=
  (EncodedAs .aslAccumulator [0x0A] ∧ ShiftsA (fun v _ => 2 * v % 256) (fun v => decide (128 ≤ v)) .aslAccumulator) ∧
  (EncodedAs .lsrAccumulator [0x4A] ∧ ShiftsA (fun v _ => v / 2) (fun v => decide (v % 2 = 1)) .lsrAccumulator) ∧
  (EncodedAs .rolAccumulator [0x2A] ∧ ShiftsA (fun v c => (2 * v + c) % 256) (fun v => decide (128 ≤ v)) .rolAccumulator) ∧
  (EncodedAs .rorAccumulator [0x6A] ∧ ShiftsA (fun v c => v / 2 + 128 * c) (fun v => decide (v % 2 = 1)) .rorAccumulator)

/-- The 16 memory forms of ASL, LSR, ROL, ROR read, shift and write back one byte.
Rests on 44_shift_rotate.md R160, 44_shift_rotate.md R161 to R164. -/
def Obligations.ShiftsOfMemory : Prop :=
  (∀ d8, EncodedAs (.aslZeroPage d8) [0x06, d8] ∧ ShiftsMemory (fun v _ => 2 * v % 256) (fun v => decide (128 ≤ v)) (.aslZeroPage d8) (.zeroPage d8)) ∧
  (∀ d8, EncodedAs (.aslZeroPageX d8) [0x16, d8] ∧ ShiftsMemory (fun v _ => 2 * v % 256) (fun v => decide (128 ≤ v)) (.aslZeroPageX d8) (.zeroPageX d8)) ∧
  (∀ d16, EncodedAs (.aslAbsolute d16) [0x0E, lowByte d16, highByte d16] ∧ ShiftsMemory (fun v _ => 2 * v % 256) (fun v => decide (128 ≤ v)) (.aslAbsolute d16) (.absolute d16)) ∧
  (∀ d16, EncodedAs (.aslAbsoluteX d16) [0x1E, lowByte d16, highByte d16] ∧ ShiftsMemory (fun v _ => 2 * v % 256) (fun v => decide (128 ≤ v)) (.aslAbsoluteX d16) (.absoluteX d16)) ∧
  (∀ d8, EncodedAs (.lsrZeroPage d8) [0x46, d8] ∧ ShiftsMemory (fun v _ => v / 2) (fun v => decide (v % 2 = 1)) (.lsrZeroPage d8) (.zeroPage d8)) ∧
  (∀ d8, EncodedAs (.lsrZeroPageX d8) [0x56, d8] ∧ ShiftsMemory (fun v _ => v / 2) (fun v => decide (v % 2 = 1)) (.lsrZeroPageX d8) (.zeroPageX d8)) ∧
  (∀ d16, EncodedAs (.lsrAbsolute d16) [0x4E, lowByte d16, highByte d16] ∧ ShiftsMemory (fun v _ => v / 2) (fun v => decide (v % 2 = 1)) (.lsrAbsolute d16) (.absolute d16)) ∧
  (∀ d16, EncodedAs (.lsrAbsoluteX d16) [0x5E, lowByte d16, highByte d16] ∧ ShiftsMemory (fun v _ => v / 2) (fun v => decide (v % 2 = 1)) (.lsrAbsoluteX d16) (.absoluteX d16)) ∧
  (∀ d8, EncodedAs (.rolZeroPage d8) [0x26, d8] ∧ ShiftsMemory (fun v c => (2 * v + c) % 256) (fun v => decide (128 ≤ v)) (.rolZeroPage d8) (.zeroPage d8)) ∧
  (∀ d8, EncodedAs (.rolZeroPageX d8) [0x36, d8] ∧ ShiftsMemory (fun v c => (2 * v + c) % 256) (fun v => decide (128 ≤ v)) (.rolZeroPageX d8) (.zeroPageX d8)) ∧
  (∀ d16, EncodedAs (.rolAbsolute d16) [0x2E, lowByte d16, highByte d16] ∧ ShiftsMemory (fun v c => (2 * v + c) % 256) (fun v => decide (128 ≤ v)) (.rolAbsolute d16) (.absolute d16)) ∧
  (∀ d16, EncodedAs (.rolAbsoluteX d16) [0x3E, lowByte d16, highByte d16] ∧ ShiftsMemory (fun v c => (2 * v + c) % 256) (fun v => decide (128 ≤ v)) (.rolAbsoluteX d16) (.absoluteX d16)) ∧
  (∀ d8, EncodedAs (.rorZeroPage d8) [0x66, d8] ∧ ShiftsMemory (fun v c => v / 2 + 128 * c) (fun v => decide (v % 2 = 1)) (.rorZeroPage d8) (.zeroPage d8)) ∧
  (∀ d8, EncodedAs (.rorZeroPageX d8) [0x76, d8] ∧ ShiftsMemory (fun v c => v / 2 + 128 * c) (fun v => decide (v % 2 = 1)) (.rorZeroPageX d8) (.zeroPageX d8)) ∧
  (∀ d16, EncodedAs (.rorAbsolute d16) [0x6E, lowByte d16, highByte d16] ∧ ShiftsMemory (fun v c => v / 2 + 128 * c) (fun v => decide (v % 2 = 1)) (.rorAbsolute d16) (.absolute d16)) ∧
  (∀ d16, EncodedAs (.rorAbsoluteX d16) [0x7E, lowByte d16, highByte d16] ∧ ShiftsMemory (fun v c => v / 2 + 128 * c) (fun v => decide (v % 2 = 1)) (.rorAbsoluteX d16) (.absoluteX d16))

/-- INC and DEC add 1 to or take 1 from a byte of memory and set N and Z, in all 8 forms.
Rests on R171, R172. -/
def Obligations.IncrementDecrementMemory : Prop :=
  (∀ d8, EncodedAs (.incZeroPage d8) [0xE6, d8] ∧ AddsToMemory 1 (.incZeroPage d8) (.zeroPage d8)) ∧
  (∀ d8, EncodedAs (.incZeroPageX d8) [0xF6, d8] ∧ AddsToMemory 1 (.incZeroPageX d8) (.zeroPageX d8)) ∧
  (∀ d16, EncodedAs (.incAbsolute d16) [0xEE, lowByte d16, highByte d16] ∧ AddsToMemory 1 (.incAbsolute d16) (.absolute d16)) ∧
  (∀ d16, EncodedAs (.incAbsoluteX d16) [0xFE, lowByte d16, highByte d16] ∧ AddsToMemory 1 (.incAbsoluteX d16) (.absoluteX d16)) ∧
  (∀ d8, EncodedAs (.decZeroPage d8) [0xC6, d8] ∧ AddsToMemory 255 (.decZeroPage d8) (.zeroPage d8)) ∧
  (∀ d8, EncodedAs (.decZeroPageX d8) [0xD6, d8] ∧ AddsToMemory 255 (.decZeroPageX d8) (.zeroPageX d8)) ∧
  (∀ d16, EncodedAs (.decAbsolute d16) [0xCE, lowByte d16, highByte d16] ∧ AddsToMemory 255 (.decAbsolute d16) (.absolute d16)) ∧
  (∀ d16, EncodedAs (.decAbsoluteX d16) [0xDE, lowByte d16, highByte d16] ∧ AddsToMemory 255 (.decAbsoluteX d16) (.absoluteX d16))

/-- INX, INY, DEX, DEY step an index register modulo 256 and set N and Z.
Rests on R173, R174, R175, R176. -/
def Obligations.IncrementDecrementIndex : Prop :=
  (EncodedAs .inx [0xE8] ∧ WritesRegNZ State.setX (fun s => s.x + 1) .inx) ∧
  (EncodedAs .iny [0xC8] ∧ WritesRegNZ State.setY (fun s => s.y + 1) .iny) ∧
  (EncodedAs .dex [0xCA] ∧ WritesRegNZ State.setX (fun s => s.x - 1) .dex) ∧
  (EncodedAs .dey [0x88] ∧ WritesRegNZ State.setY (fun s => s.y - 1) .dey)

/-- CMP, CPX, CPY: unsigned Carry and Zero, Negative from the difference, in all 14 forms.
Rests on R181, R182, R183. -/
def Obligations.CompareFlags : Prop :=
  (∀ d8, EncodedAs (.cmpImmediate d8) [0xC9, d8] ∧ Compares (·.a) (.cmpImmediate d8) (.immediate d8)) ∧
  (∀ d8, EncodedAs (.cmpZeroPage d8) [0xC5, d8] ∧ Compares (·.a) (.cmpZeroPage d8) (.memory (.zeroPage d8))) ∧
  (∀ d8, EncodedAs (.cmpZeroPageX d8) [0xD5, d8] ∧ Compares (·.a) (.cmpZeroPageX d8) (.memory (.zeroPageX d8))) ∧
  (∀ d16, EncodedAs (.cmpAbsolute d16) [0xCD, lowByte d16, highByte d16] ∧ Compares (·.a) (.cmpAbsolute d16) (.memory (.absolute d16))) ∧
  (∀ d16, EncodedAs (.cmpAbsoluteX d16) [0xDD, lowByte d16, highByte d16] ∧ Compares (·.a) (.cmpAbsoluteX d16) (.memory (.absoluteX d16))) ∧
  (∀ d16, EncodedAs (.cmpAbsoluteY d16) [0xD9, lowByte d16, highByte d16] ∧ Compares (·.a) (.cmpAbsoluteY d16) (.memory (.absoluteY d16))) ∧
  (∀ d8, EncodedAs (.cmpIndexedIndirect d8) [0xC1, d8] ∧ Compares (·.a) (.cmpIndexedIndirect d8) (.memory (.indexedIndirect d8))) ∧
  (∀ d8, EncodedAs (.cmpIndirectIndexed d8) [0xD1, d8] ∧ Compares (·.a) (.cmpIndirectIndexed d8) (.memory (.indirectIndexed d8))) ∧
  (∀ d8, EncodedAs (.cpxImmediate d8) [0xE0, d8] ∧ Compares (·.x) (.cpxImmediate d8) (.immediate d8)) ∧
  (∀ d8, EncodedAs (.cpxZeroPage d8) [0xE4, d8] ∧ Compares (·.x) (.cpxZeroPage d8) (.memory (.zeroPage d8))) ∧
  (∀ d16, EncodedAs (.cpxAbsolute d16) [0xEC, lowByte d16, highByte d16] ∧ Compares (·.x) (.cpxAbsolute d16) (.memory (.absolute d16))) ∧
  (∀ d8, EncodedAs (.cpyImmediate d8) [0xC0, d8] ∧ Compares (·.y) (.cpyImmediate d8) (.immediate d8)) ∧
  (∀ d8, EncodedAs (.cpyZeroPage d8) [0xC4, d8] ∧ Compares (·.y) (.cpyZeroPage d8) (.memory (.zeroPage d8))) ∧
  (∀ d16, EncodedAs (.cpyAbsolute d16) [0xCC, lowByte d16, highByte d16] ∧ Compares (·.y) (.cpyAbsolute d16) (.memory (.absolute d16)))

/-- The eight branches move PC by the signed displacement exactly when their flag test holds.
Rests on R191, R192, R193, R194, R195, R196, R197, R198. -/
def Obligations.BranchesFollowTheirFlag : Prop :=
  BranchesWhen .N false 0x10 .bpl ∧
  BranchesWhen .N true 0x30 .bmi ∧
  BranchesWhen .V false 0x50 .bvc ∧
  BranchesWhen .V true 0x70 .bvs ∧
  BranchesWhen .C false 0x90 .bcc ∧
  BranchesWhen .C true 0xB0 .bcs ∧
  BranchesWhen .Z false 0xD0 .bne ∧
  BranchesWhen .Z true 0xF0 .beq

/-- JMP absolute jumps to its operand, JMP indirect to the word at its operand (at the pointer 0x5FFF by the model's choice, entry 18).
Rests on 47_branch_jump.md R199, 40_addressing.md R110, 20_memory.md R55, R58. -/
def Obligations.JumpTargets : Prop :=
  (∀ d16, EncodedAs (.jmpAbsolute d16) [0x4C, lowByte d16, highByte d16] ∧
    ∀ s, exec (.jmpAbsolute d16) s = .next { s with pc := d16 }) ∧
  (∀ d16, EncodedAs (.jmpIndirect d16) [0x6C, lowByte d16, highByte d16] ∧
    ∀ s, exec (.jmpIndirect d16) s =
      .next { s with
        pc := joinBytes (s.byteAt ((d16.toNat + 1) % 0x10000)) (s.byteAt d16.toNat)
        draws := s.draws + placeholderReads [.read d16.toNat, .read ((d16.toNat + 1) % 0x10000)] }) ∧
  ∀ (d16 : Addr) (s : State), (indirectTargetWith true d16 s).1 =
    joinBytes (s.byteAt (d16.toNat / 256 * 256 + (d16.toNat + 1) % 256)) (s.byteAt d16.toNat)

/-- PHA pushes A and PHP pushes P with bits 4 and 5 set; P itself does not change.
Rests on R200, R201. -/
def Obligations.PushInstructions : Prop :=
  (EncodedAs .pha [0x48] ∧ ∀ s, ∃ t, exec .pha s = .next t ∧
    t = { s with mem := t.mem, sp := s.sp - 1 } ∧ StoredOnly s t (0x100 + s.sp.toNat) s.a) ∧
  (EncodedAs .php [0x08] ∧ ∀ s, ∃ t, exec .php s = .next t ∧
    t = { s with mem := t.mem, sp := s.sp - 1 } ∧ StoredOnly s t (0x100 + s.sp.toNat) (s.p ||| 0x30))

/-- PLA pulls A and sets N and Z; PLP replaces all eight bits of P.
Rests on R202, R203. -/
def Obligations.PullInstructions : Prop :=
  (EncodedAs .pla [0x68] ∧ ∀ s, ∃ p', exec .pla s =
      .next { s with a := s.byteAt (0x100 + (s.sp + 1).toNat), p := p', sp := s.sp + 1 } ∧
    FlagsSet s.p p' (nzOf (s.byteAt (0x100 + (s.sp + 1).toNat)))) ∧
  (EncodedAs .plp [0x28] ∧ ∀ s, exec .plp s =
    .next { s with p := s.byteAt (0x100 + (s.sp + 1).toNat), sp := s.sp + 1 })

/-- JSR pushes PC - 1, high byte first, and jumps.
Rests on R204. -/
def Obligations.JsrPushesReturnAddress : Prop :=
  ∀ d16, EncodedAs (.jsr d16) [0x20, lowByte d16, highByte d16] ∧ ∀ s, ∃ t, exec (.jsr d16) s = .next t ∧
    t = { s with mem := t.mem, sp := s.sp - 2, pc := d16 } ∧
    t.byteAt (0x100 + s.sp.toNat) = highByte (s.pc - 1) ∧
    t.byteAt (0x100 + (s.sp - 1).toNat) = lowByte (s.pc - 1) ∧
    BytesKept s t (fun addr => addr = 0x100 + s.sp.toNat ∨ addr = 0x100 + (s.sp - 1).toNat)

/-- RTS pulls PC and adds 1; RTI pulls P and then PC.
Rests on R205, R206. -/
def Obligations.ReturnsPullPc : Prop :=
  (EncodedAs .rts [0x60] ∧ ∀ s, exec .rts s =
    .next { s with
      pc := joinBytes (s.byteAt (0x100 + (s.sp + 2).toNat)) (s.byteAt (0x100 + (s.sp + 1).toNat)) + 1
      sp := s.sp + 2 }) ∧
  (EncodedAs .rti [0x40] ∧ ∀ s, exec .rti s =
    .next { s with
      p := s.byteAt (0x100 + (s.sp + 1).toNat)
      pc := joinBytes (s.byteAt (0x100 + (s.sp + 3).toNat)) (s.byteAt (0x100 + (s.sp + 2).toNat))
      sp := s.sp + 3 })

/-- A JSR whose target is an RTS comes back to the instruction after the JSR with S as before.
Rests on R207. -/
def Obligations.SubroutineRoundTrip : Prop :=
  ∀ s : State, s.ready = true → s.byteAt s.pc.toNat = 0x20 →
    ∃ t, step s = .next t ∧
      t.pc = joinBytes (s.byteAt (s.pc.toNat + 2)) (s.byteAt (s.pc.toNat + 1)) ∧ t.sp = s.sp - 2 ∧
      joinBytes (t.byteAt (0x100 + s.sp.toNat)) (t.byteAt (0x100 + (s.sp - 1).toNat)) = s.pc + 2 ∧
      (t.byteAt t.pc.toNat = 0x60 → ∃ u, step t = .next u ∧ u.pc = s.pc + 3 ∧ u.sp = s.sp)

/-- CLC, SEC, CLI, SEI, CLD, SED, CLV write their one flag and nothing else.
Rests on R211, R212, R213, R214, R215, R216, R217. -/
def Obligations.FlagInstructionsWriteOneFlag : Prop :=
  (EncodedAs .clc [0x18] ∧ SetsFlag .C false .clc) ∧
  (EncodedAs .sec [0x38] ∧ SetsFlag .C true .sec) ∧
  (EncodedAs .cli [0x58] ∧ SetsFlag .I false .cli) ∧
  (EncodedAs .sei [0x78] ∧ SetsFlag .I true .sei) ∧
  (EncodedAs .cld [0xD8] ∧ SetsFlag .D false .cld) ∧
  (EncodedAs .sed [0xF8] ∧ SetsFlag .D true .sed) ∧
  (EncodedAs .clv [0xB8] ∧ SetsFlag .V false .clv)

/-- BRK clears ready and nothing else and the step reports Halted; NOP changes nothing.
Rests on R218, R219. -/
def Obligations.BrkHaltsAndNopDoesNothing : Prop :=
  (EncodedAs .brk [0x00] ∧ (∀ s, exec .brk s = .next { s with ready := false }) ∧
    ∀ s : State, s.ready = true → s.byteAt s.pc.toNat = 0x00 →
      step s = .next { afterFetch 1 s with ready := false } ∧ report s = .halted) ∧
  (EncodedAs .nop [0xEA] ∧ (∀ s, exec .nop s = .next s) ∧
    ∀ s : State, s.ready = true → s.byteAt s.pc.toNat = 0xEA → step s = .next (afterFetch 1 s) ∧ report s = .continued)

/-- No valid instruction raises anything: exec always answers a next state and latches no fault.
Rests on 60_exceptions.md R234, 41_transfer_load_store.md R120. -/
def Obligations.EveryInstructionCompletes : Prop :=
  (∀ (i : Instr) (s : State), ∃ t, exec i s = .next t ∧ t.fault = s.fault) ∧ ∀ s : State, ∃ t, step s = .next t

/-- A, X, Y, S change only by the instructions the table of R22 names.
Rests on 10_state.md R22 (the column "written by"). -/
def Obligations.RegisterWriters : Prop :=
  ∀ (i : Instr) (s t : State), exec i s = .next t →
    (writesA i = false → t.a = s.a) ∧ (writesX i = false → t.x = s.x) ∧ (writesY i = false → t.y = s.y) ∧
      (writesS i = false → t.sp = s.sp)

/-- Each flag changes only by the instructions the table of R28 names.
Rests on 10_state.md R28 (the column "written by"), 00_scope.md R8. -/
def Obligations.FlagWriters : Prop :=
  ∀ (i : Instr) (s t : State) (f : Flag), exec i s = .next t → writesFlag i f = false → getFlag f t.p = getFlag f s.p

/-- PC changes in an instruction body only by branches, jumps, calls and returns; ready only by BRK; fault by none.
Rests on 10_state.md R26, R36, R37, 49_flags_halt_nop.md R218. -/
def Obligations.ControlStateWriters : Prop :=
  ∀ (i : Instr) (s t : State), exec i s = .next t →
    (writesPc i = false → t.pc = s.pc) ∧ (i ≠ .brk → t.ready = s.ready) ∧ t.fault = s.fault ∧ t.ramDraw = s.ramDraw

/-- An instruction changes no byte but those its access sequence writes.
Rests on 20_memory.md R56, R69, 40_addressing.md R114. -/
def Obligations.MemoryFrame : Prop :=
  ∀ (i : Instr) (s t : State), exec i s = .next t → BytesKept s t (writtenIn (bodyAccesses i s))

/-- No step changes a byte of ROM.
Rests on 20_memory.md R54. -/
def Obligations.RomNeverWritten : Prop :=
  ∀ s t : State, step s = .next t → ∀ addr, 0x8000 ≤ addr → addr ≤ 0xFFFF → t.byteAt addr = s.byteAt addr

/-- A step takes exactly one random draw for each read of 0x2000 in its access sequence.
Rests on 00_scope.md R9, 20_memory.md R55, R57, R69. -/
def Obligations.OneDrawPerPlaceholderRead : Prop :=
  ∀ s t : State, step s = .next t → t.draws = s.draws + placeholderReads (accesses s)

/-- A step makes at most five memory accesses.
Rests on 60_exceptions.md R230. -/
def Obligations.StepMakesAtMostFiveAccesses : Prop :=
  ∀ s : State, (accesses s).length ≤ 5

/-- A step runs the instruction the bytes at PC decode to, with PC past it.
Rests on 60_exceptions.md R230, 40_addressing.md R100, 10_state.md R24, R26. -/
def Obligations.StepRunsDecodedInstruction : Prop :=
  ∀ (s : State) (i : Instr) (rest : List Byte), s.ready = true → decode (bytesAtPc s) = .ok (i, rest) →
    step s = exec i (afterFetch i.length s)

/-- While ready is false a step makes no access, changes nothing and reports Halted.
Rests on R232. -/
def Obligations.HaltedStepChangesNothing : Prop :=
  ∀ s : State, (s.ready = false → step s = .next s ∧ report s = .halted ∧ accesses s = [] ∧ ∀ n, runLoop n s = .next s) ∧
    (resetCore s).ready = true ∧ (powerOn s).ready = true

/-- An invalid opcode halts the core with PC at the opcode and the report latched; nothing else changes.
Rests on R233. -/
def Obligations.InvalidOpcodeHaltsPrecisely : Prop :=
  ∀ s : State, s.ready = true → decodeOpcode (s.byteAt s.pc.toNat) = none →
    step s =
        .next { s with
          ready := false
          fault := some ⟨s.byteAt s.pc.toNat, s.pc⟩
          draws := s.draws + placeholderReads [.read s.pc.toNat] } ∧
      report s = .faulted ∧ accesses s = [.read s.pc.toNat]

/-- A step reports Continue exactly when the core is still ready, Fault exactly on an invalid opcode.
Rests on 60_exceptions.md R230, R237. -/
def Obligations.ReportOfStep : Prop :=
  ∀ s t : State, step s = .next t →
    (report s = .continued ↔ t.ready = true) ∧
      (report s = .faulted ↔ s.ready = true ∧ decodeOpcode (s.byteAt s.pc.toNat) = none) ∧
      (report s = .halted ↔ t.ready = false ∧ ¬ (s.ready = true ∧ decodeOpcode (s.byteAt s.pc.toNat) = none))

/-- The invalid opcodes are exactly the 105 values the spec lists.
Rests on 30_encoding.md R88. -/
def Obligations.InvalidOpcodesAreThe105 : Prop :=
  let invalid : List Byte :=
    [0x02, 0x03, 0x04, 0x07, 0x0B, 0x0C, 0x0F, 0x12, 0x13, 0x14, 0x17, 0x1A, 0x1B, 0x1C, 0x1F,
      0x22, 0x23, 0x27, 0x2B, 0x2F, 0x32, 0x33, 0x34, 0x37, 0x3A, 0x3B, 0x3C, 0x3F, 0x42, 0x43,
      0x44, 0x47, 0x4B, 0x4F, 0x52, 0x53, 0x54, 0x57, 0x5A, 0x5B, 0x5C, 0x5F, 0x62, 0x63, 0x64,
      0x67, 0x6B, 0x6F, 0x72, 0x73, 0x74, 0x77, 0x7A, 0x7B, 0x7C, 0x7F, 0x80, 0x82, 0x83, 0x87,
      0x89, 0x8B, 0x8F, 0x92, 0x93, 0x97, 0x9B, 0x9C, 0x9E, 0x9F, 0xA3, 0xA7, 0xAB, 0xAF, 0xB2,
      0xB3, 0xB7, 0xBB, 0xBF, 0xC2, 0xC3, 0xC7, 0xCB, 0xCF, 0xD2, 0xD3, 0xD4, 0xD7, 0xDA, 0xDB,
      0xDC, 0xDF, 0xE2, 0xE3, 0xE7, 0xEB, 0xEF, 0xF2, 0xF3, 0xF4, 0xF7, 0xFA, 0xFB, 0xFC, 0xFF]
  invalid.length = 105 ∧ invalid.Nodup ∧ ∀ op : Byte, decodeOpcode op = none ↔ op ∈ invalid

/-- The dispatcher is total and injective over (mnemonic, mode) pairs.
Rests on R84. -/
def Obligations.DispatcherIsTheOpcodeMap : Prop :=
  (∀ (op : Byte) (m : Mnemonic) (mode : Mode),
    decodeOpcode op = some (m, mode) ↔ ∃ i : Instr, i.opcode = op ∧ i.mnemonic = m ∧ i.mode = mode) ∧
  (∀ i j : Instr, i.opcode = j.opcode ↔ i.mnemonic = j.mnemonic ∧ i.mode = j.mode) ∧
  ∀ op : Byte, (∃ m mode, decodeOpcode op = some (m, mode)) ∨ decodeOpcode op = none

/-- Decoding the encoding of any instruction gives it back, operands and all.
Rests on 30_encoding.md R81, R83, R86, R87. -/
def Obligations.DecodeOfEncode : Prop :=
  ∀ (i : Instr) (rest : List Byte), decode (encode i ++ rest) = .ok (i, rest)

/-- Bytes that decode to an instruction are its encoding: each instruction has one encoding.
Rests on 30_encoding.md R81, R83, R84. -/
def Obligations.EncodeOfDecode : Prop :=
  ∀ (bytes rest : List Byte) (i : Instr), decode bytes = .ok (i, rest) →
    bytes = encode i ++ rest ∧ 1 ≤ i.length ∧ i.length ≤ 3

/-- The encodings the spec writes out decode to the instructions it names.
Rests on 30_encoding.md R91 (its examples), 95_test_vectors.md 3.4. -/
def Obligations.SampleWordsDecode : Prop :=
  decode [0xA9, 0x10] = .ok (.ldaImmediate 0x10, []) ∧ decode [0xB9, 0x34, 0x12] = .ok (.ldaAbsoluteY 0x1234, []) ∧
    decode [0xA1, 0x10] = .ok (.ldaIndexedIndirect 0x10, []) ∧ decode [0x6C, 0x34, 0x12] = .ok (.jmpIndirect 0x1234, []) ∧
    decode [0x0A] = .ok (.aslAccumulator, []) ∧ decode [0xD0, 0xFB] = .ok (.bne 0xFB, []) ∧
    decode [0x96, 0x10] = .ok (.stxZeroPageY 0x10, []) ∧ decode [0x02, 0x10] = .error (.invalidOpcode 0x02) ∧
    decode [0xA9] = .error (.truncated 0xA9)

/-- The instructions are exactly the well-formed pairs of mnemonic and operand.
Rests on 30_encoding.md R82, R86. -/
def Obligations.FormsAreTheTableCells : Prop :=
  (∀ f : Form, f.wellFormed = true ↔ ∃ i : Instr, i.form = f) ∧ ∀ i j : Instr, i.form = j.form → i = j

/-- Every step keeps the invariant: canonical memory, and a latched fault means a halted core at the invalid opcode.
Rests on 10_state.md R36, R37, 20_memory.md R51 to R54, 60_exceptions.md R233, R236. -/
def Obligations.StepKeepsInvariant : Prop :=
  ∀ s t : State, Inv s → step s = .next t → Inv t

/-- The state after power-on is ready, has no fault and meets the invariant; Reset and PowerOn keep it.
Rests on 10_state.md R39, 70_reset_and_hazards.md R260, R262. -/
def Obligations.ResetStateMeetsInvariant : Prop :=
  Inv State.reset ∧ State.reset.ready = true ∧ State.reset.fault = none ∧
    ∀ s : State, Memory.wf s.mem → Inv (resetCore s) ∧ Inv (powerOn s)

/-- No program can observe bits 4 and 5 of P.
Rests on R40. -/
def Obligations.BreakAndUnusedBitsUnobservable : Prop :=
  (∀ s t : State, SameButBU s t →
    ∃ s' t', step s = .next s' ∧ step t = .next t' ∧ SameButBU s' t' ∧ report s = report t) ∧
  (∀ s : State, ∃ t, exec .php s = .next t ∧ t.p = s.p ∧ t.byteAt (0x100 + s.sp.toNat) = s.p ||| 0x30) ∧
  ∀ s : State, (∃ t, exec .plp s = .next t ∧ t.p = s.byteAt (0x100 + (s.sp + 1).toNat)) ∧
    ∃ t, exec .rti s = .next t ∧ t.p = s.byteAt (0x100 + (s.sp + 1).toNat)

/-- MemRead: the backing byte, a fresh draw at 0x2000, zero in the unmapped range; nothing else changes.
Rests on R55. -/
def Obligations.MemReadFollowsTheMap : Prop :=
  (∀ (s : State) (addr : Nat),
    let a := addr % 0x10000
    (a ≤ 0x1FFF → hostGet .RAM a s = some (readByte addr s).1) ∧
      (0x8000 ≤ a → hostGet .ROM (a &&& 0x7FFF) s = some (readByte addr s).1) ∧
      (0x6000 ≤ a ∧ a ≤ 0x7FFF → hostGet .SaveRAM (a - 0x6000) s = some (readByte addr s).1) ∧
      (a = 0x2000 → (readByte addr s).1 = Config.randByte s.draws) ∧
      (0x2001 ≤ a ∧ a ≤ 0x5FFF → (readByte addr s).1 = 0x00) ∧
      (readByte addr s).2 = { s with draws := s.draws + if a = 0x2000 then 1 else 0 }) ∧
  ∀ s : State, (readByte 0x2000 (readByte 0x2000 s).2).1 = Config.randByte (s.draws + 1)

/-- MemWrite stores in RAM and SaveRAM and is silently discarded anywhere else.
Rests on R56. -/
def Obligations.MemWriteStoresOnlyInRamAndSaveRam : Prop :=
  ∀ (s : State) (addr : Nat) (v : Byte),
    let t := writeByte addr v s
    StoredOnly s t (addr % 0x10000) v ∧ t = { s with mem := t.mem } ∧ (¬ Stores (addr % 0x10000) → t = s) ∧
      (Stores (addr % 0x10000) →
        (addr % 0x10000 ≤ 0x1FFF → hostGet .RAM (addr % 0x10000) t = some v) ∧
          (0x6000 ≤ addr % 0x10000 → hostGet .SaveRAM (addr % 0x10000 - 0x6000) t = some v))

/-- ReadWord reads the low byte at the address and the high byte at the next address modulo 65536.
Rests on R58. -/
def Obligations.ReadWordIsLittleEndian : Prop :=
  ∀ (s : State) (addr : Nat),
    (readWord addr s).1.toNat =
        (s.byteAt (addr % 0x10000)).toNat + 256 * (s.byteAt ((addr + 1) % 0x10000)).toNat ∧
      (readWord addr s).2 =
        { s with
          draws := s.draws + placeholderReads [.read (addr % 0x10000), .read ((addr + 1) % 0x10000)] } ∧
      (readWord 0xFFFF s).1 = joinBytes (s.byteAt 0x0000) (s.byteAt 0xFFFF) ∧
      (readWord 0x00FF s).1 = joinBytes (s.byteAt 0x0100) (s.byteAt 0x00FF)

/-- setFlag writes one bit; SetN and SetNZ write N and Z of any integer modulo 256.
Rests on R29, R30, R31. -/
def Obligations.FlagUpdatesTouchTheirBits : Prop :=
  (∀ (f : Flag) (b : Bool) (p : Byte), FlagsSet p (setFlag f b p) [(f, b)] ∧
    getFlag f p = decide (p.toNat / 2 ^ f.bit % 2 = 1) ∧
    (setFlag f b p).toNat = (p.toNat &&& (255 - 2 ^ f.bit)) ||| (b.toNat * 2 ^ f.bit)) ∧
  ∀ (v : Int) (p : Byte),
    FlagsSet p (setN (byteOfInt v) p) [(.N, decide (128 ≤ v % 256))] ∧
      FlagsSet p (setNZ (byteOfInt v) p) [(.N, decide (128 ≤ v % 256)), (.Z, decide (v % 256 = 0))]

/-- Push16 lays the high byte above the low byte in page 1; Pull16 gives the word back and restores S.
Rests on R34, R35. -/
def Obligations.StackWordLayoutAndRoundTrip : Prop :=
  ∀ (v : Addr) (s : State),
    let t := push16 v s
    t = { s with mem := t.mem, sp := s.sp - 2 } ∧ t.byteAt (0x100 + s.sp.toNat) = highByte v ∧
      t.byteAt (0x100 + (s.sp - 1).toNat) = lowByte v ∧
      BytesKept s t (fun addr => addr = 0x100 + s.sp.toNat ∨ addr = 0x100 + (s.sp - 1).toNat) ∧
      pull16 t = (v, { t with sp := s.sp }) ∧
      pull16 s =
        (joinBytes (s.byteAt (0x100 + (s.sp + 2).toNat)) (s.byteAt (0x100 + (s.sp + 1).toNat)), { s with sp := s.sp + 2 })

/-- Up to 256 bytes pushed come back in reverse order, with S restored, wherever S starts.
Rests on 10_state.md R23, R32, R33, 95_test_vectors.md E2. -/
def Obligations.StackIsLastInFirstOut : Prop :=
  ∀ (vs : List Byte) (s : State), vs.length ≤ 256 →
    (pullAll vs.length (pushAll vs s)).1 = vs.reverse ∧
      (pullAll vs.length (pushAll vs s)).2 = { pushAll vs s with sp := s.sp }

/-- The effective address of each of the eight memory modes.
Rests on R104, R105, R106, R107, R108, R109, R111, R112. -/
def Obligations.ResolverAddresses : Prop :=
  ∀ (s : State) (d8 : Byte) (d16 : Addr),
    let word := fun (wrap : Bool) (zp : Nat) =>
      (s.byteAt zp).toNat + 256 * (s.byteAt (if wrap then (zp + 1) % 256 else zp + 1)).toNat
    addressOf (.zeroPage d8) s = d8.toNat ∧
      addressOf (.zeroPageX d8) s = (d8.toNat + s.x.toNat) % 256 ∧
      addressOf (.zeroPageY d8) s = (d8.toNat + s.y.toNat) % 256 ∧
      addressOf (.absolute d16) s = d16.toNat ∧
      addressOf (.absoluteX d16) s = (d16.toNat + s.x.toNat) % 0x10000 ∧
      addressOf (.absoluteY d16) s = (d16.toNat + s.y.toNat) % 0x10000 ∧
      (effectiveAddress (.absoluteX d16) s).1 = d16.toNat + s.x.toNat ∧
      addressOf (.indexedIndirect d8) s = word false ((d8.toNat + s.x.toNat) % 256) ∧
      addressOf (.indirectIndexed d8) s = (word false d8.toNat + s.y.toNat) % 0x10000 ∧
      ∀ wrap : Bool,
        (effectiveAddressWith wrap (.indexedIndirect d8) s).1 = word wrap ((d8.toNat + s.x.toNat) % 256) ∧
          (effectiveAddressWith wrap (.indirectIndexed d8) s).1 = word wrap d8.toNat + s.y.toNat

/-- Resolving a mode changes nothing; reading the operand takes a draw only at 0x2000.
Rests on 40_addressing.md R100, R114, 20_memory.md R55. -/
def Obligations.ResolverChangesNoState : Prop :=
  ∀ (s : State) (r : MemRef) (d8 : Byte),
    (effectiveAddress r s).2 = s ∧
      readOperand (.memory r) s =
        (s.byteAt (addressOf r s), { s with draws := s.draws + if addressOf r s = 0x2000 then 1 else 0 }) ∧
      readOperand (.immediate d8) s = (d8, s)

/-- Reset loads PC from 0xFFFC/0xFFFD, sets ready, clears fault and changes nothing else.
Rests on R262, R264. -/
def Obligations.ResetLoadsPcFromVector : Prop :=
  (∀ s : State, resetCore s =
    { s with pc := joinBytes (s.byteAt 0xFFFD) (s.byteAt 0xFFFC), ready := true, fault := none }) ∧
  ∀ s : State,
    let t := resetCore (hostSet .ROM 0x7FFD 0x90 (hostSet .ROM 0x7FFC 0x00 s))
    t.pc = 0x9000 ∧ t.ready = true

/-- PowerOn draws A, X, Y, S, P and every RAM byte, keeps SaveRAM and ROM, and resets.
Rests on 70_reset_and_hazards.md R260, 10_state.md R39. -/
def Obligations.PowerOnDrawsRegistersAndRam : Prop :=
  (∀ s : State,
    let t := powerOn s
    t.a = Config.randByte s.draws ∧ t.x = Config.randByte (s.draws + 1) ∧ t.y = Config.randByte (s.draws + 2) ∧
      t.sp = Config.randByte (s.draws + 3) ∧ t.p = Config.randByte (s.draws + 4) ∧
      (∀ i, i < 8192 → hostGet .RAM i t = some (Config.randByte (s.draws + 7 + i))) ∧
      (∀ i, hostGet .SaveRAM i t = hostGet .SaveRAM i s ∧ hostGet .ROM i t = hostGet .ROM i s) ∧
      t.pc = joinBytes (s.byteAt 0xFFFD) (s.byteAt 0xFFFC) ∧ t.ready = true ∧ t.fault = none ∧
      t.draws = s.draws + 8199) ∧
  ∀ s : State, s.mem = [] → s.draws = 0 → powerOn s = State.reset

/-- Host accessors mask registers to their width and set one element of one backing array.
Rests on 60_exceptions.md R244. -/
def Obligations.HostAccessorsReadAndSet : Prop :=
  (∀ (v : Nat) (s : State),
    hostSetA v s = { s with a := BitVec.ofNat 8 (v % 256) } ∧ hostSetX v s = { s with x := BitVec.ofNat 8 (v % 256) } ∧
      hostSetY v s = { s with y := BitVec.ofNat 8 (v % 256) } ∧ hostSetS v s = { s with sp := BitVec.ofNat 8 (v % 256) } ∧
      hostSetP v s = { s with p := BitVec.ofNat 8 (v % 256) } ∧
      hostSetPc v s = { s with pc := BitVec.ofNat 16 (v % 65536) }) ∧
  ∀ (arr : BackingArray) (off : Nat) (v : Byte) (s : State),
    let t := hostSet arr off v s
    t = { s with mem := t.mem } ∧ (off < arr.size → hostGet arr off t = some v) ∧
      (∀ arr' off', (arr', off') ≠ (arr, off) → hostGet arr' off' t = hostGet arr' off' s) ∧
      (¬ off < arr.size → t = s) ∧ (Memory.wf s.mem → Memory.wf t.mem)

/-- The run loop is the iteration of step: a halted step changes nothing, so both agree.
Rests on 60_exceptions.md R231, R232. -/
def Obligations.RunLoopIteratesStep : Prop :=
  (∀ (n : Nat) (s : State), runLoop n s = Host.Core.run Sys2Proof.core n s) ∧
  ∀ (n k : Nat) (s t : State), runLoop n s = .next t → t.ready = false → runLoop (n + k) s = .next t

/-- A run whose steps report no Fault ends in a state with the fault latch as it was.
Rests on 10_state.md R37, 60_exceptions.md R235. -/
def Obligations.SafeRunsLatchNoFault : Prop :=
  ∀ (n : Nat) (s : State), SafeFor n s → ∃ t, runLoop n s = .next t ∧ t.fault = s.fault

/-- Whatever byte an instruction stores in RAM or SaveRAM is what the very next fetch there reads; no instruction changes what a fetch from ROM reads.
Rests on 20_memory.md R67, 20_memory.md R54, R56, 40_addressing.md R114. -/
def Obligations.StoreVisibleToNextFetch : Prop :=
  ∀ (i : Instr) (s : State), ∃ t, exec i s = .next t ∧
    (∀ ea, writtenIn (bodyAccesses i s) ea ↔ ∃ v, (ea, v) ∈ storedBytes i s) ∧
    (∀ ea v, (ea, v) ∈ storedBytes i s → Stores ea → (fetch8 { t with pc := BitVec.ofNat 16 ea }).1 = v) ∧
    ∀ d16 : Addr, 0x8000 ≤ d16.toNat → (fetch8 { t with pc := d16 }).1 = s.byteAt d16.toNat
end

