-- ==== Sys2Proof/Laws/Flags.lean ====
section
/-! SUPPORT. The laws of the flag accessors: reading after writing, and that eight flags are the whole of P. -/

namespace Sys2Proof.Machine

theorem Flag.bit_lt (f : Flag) : f.bit < 8 := by cases f <;> decide

theorem Flag.bit_injective {f g : Flag} (h : f.bit = g.bit) : f = g := by
  cases f <;> cases g <;> first | rfl | exact absurd h (by decide)

/-- The bits of a byte after `setFlag`: bit `f.bit` is `b`, the others as before (10_state.md R29). -/
theorem getLsbD_setFlag (f : Flag) (b : Bool) (p : Byte) (n : Nat) (hn : n < 8) :
    (setFlag f b p).getLsbD n = if n = f.bit then b else p.getLsbD n := by
  have hn' : n = 0 ∨ n = 1 ∨ n = 2 ∨ n = 3 ∨ n = 4 ∨ n = 5 ∨ n = 6 ∨ n = 7 := by omega
  cases f <;> rcases hn' with rfl | rfl | rfl | rfl | rfl | rfl | rfl | rfl <;> cases b <;> simp [setFlag, Flag.bit]

@[simp] theorem getFlag_setFlag_self (f : Flag) (b : Bool) (p : Byte) : getFlag f (setFlag f b p) = b := by
  unfold getFlag
  rw [getLsbD_setFlag _ _ _ _ (Flag.bit_lt f), if_pos rfl]

theorem getFlag_setFlag_of_ne {f g : Flag} (h : g ≠ f) (b : Bool) (p : Byte) :
    getFlag g (setFlag f b p) = getFlag g p := by
  have hb : g.bit ≠ f.bit := fun e => h (Flag.bit_injective e)
  unfold getFlag
  rw [getLsbD_setFlag _ _ _ _ (Flag.bit_lt g), if_neg hb]

/-- Reading any flag after writing one. -/
theorem getFlag_setFlag (f g : Flag) (b : Bool) (p : Byte) :
    getFlag g (setFlag f b p) = if g = f then b else getFlag g p := by
  by_cases h : g = f
  · subst h; simp
  · simp [h, getFlag_setFlag_of_ne h]

/-- The eight flags are the whole of P (R27). -/
theorem eq_of_getFlag_eq {p q : Byte} (h : ∀ f, getFlag f p = getFlag f q) : p = q := by
  apply BitVec.eq_of_getLsbD_eq
  intro n hn
  have hn' : n = 0 ∨ n = 1 ∨ n = 2 ∨ n = 3 ∨ n = 4 ∨ n = 5 ∨ n = 6 ∨ n = 7 := by omega
  rcases hn' with rfl | rfl | rfl | rfl | rfl | rfl | rfl | rfl
  · exact h .C
  · exact h .Z
  · exact h .I
  · exact h .D
  · exact h .B
  · exact h .U
  · exact h .V
  · exact h .N

/-- Every flag after `SetNZ` (R31). -/
theorem getFlag_setNZ (f : Flag) (v p : Byte) :
    getFlag f (setNZ v p) = if f = .Z then v == 0 else if f = .N then v.getLsbD 7 else getFlag f p := by
  simp [setNZ, setN, getFlag_setFlag]

/-- Every flag after a shift or rotate (44_shift_rotate.md R161). -/
theorem getFlag_shiftStatus (f : Flag) (r : Byte × Bool) (p : Byte) :
    getFlag f (shiftStatus r p) =
      if f = .Z then r.1 == 0 else if f = .N then r.1.getLsbD 7 else if f = .C then r.2 else getFlag f p := by
  simp [shiftStatus, getFlag_setNZ, getFlag_setFlag]

/-- Every flag after `Compare` (46_compare.md R180). -/
theorem getFlag_compareStatus (f : Flag) (reg m p : Byte) :
    getFlag f (compareStatus reg m p) =
      if f = .N then (reg - m).getLsbD 7 else if f = .Z then reg == m
      else if f = .C then decide (reg.toNat ≥ m.toNat) else getFlag f p := by
  simp [compareStatus, getFlag_setFlag]

/-- Every flag after BIT (43_logical.md R154). -/
theorem getFlag_bitStatus (f : Flag) (a m p : Byte) :
    getFlag f (bitStatus a m p) =
      if f = .V then m.getLsbD 6 else if f = .N then m.getLsbD 7 else if f = .Z then a &&& m == 0 else getFlag f p := by
  simp [bitStatus, getFlag_setFlag]

/-- Every flag after ADC (42_arithmetic.md R142). -/
theorem getFlag_adcStatus (f : Flag) (w : Bool) (a m p : Byte) :
    getFlag f (adcStatus w a m p) =
      let c := getFlag .C p
      if f = .Z then adcResult a m c == 0 else if f = .N then (adcResult a m c).getLsbD 7
      else if f = .C then decide (adcSum a m c > 255)
      else if w && f == .V then overflowAdd a m (adcResult a m c) else getFlag f p := by
  cases w <;> cases f <;> simp [adcStatus, getFlag_setNZ, getFlag_setFlag]

/-- Every flag after SBC (42_arithmetic.md R143). -/
theorem getFlag_sbcStatus (f : Flag) (w : Bool) (a m p : Byte) :
    getFlag f (sbcStatus w a m p) =
      let c := getFlag .C p
      if f = .Z then sbcResult a m c == 0 else if f = .N then (sbcResult a m c).getLsbD 7
      else if f = .C then decide (sbcDiff a m c ≥ 0)
      else if w && f == .V then overflowSub a m (sbcResult a m c) else getFlag f p := by
  cases w <;> cases f <;> simp [sbcStatus, getFlag_setNZ, getFlag_setFlag]

end Sys2Proof.Machine
end

