-- ==== Sys2Proof/Laws/Memory.lean ====
section
/-! SUPPORT. The laws of memory: reading after writing, for any list of cells, and that every operation keeps the canonical
form (20_memory.md R55, R56, R65). -/

namespace Sys2Proof.Machine

theorem maskAddr_lt (addr : Nat) : maskAddr addr < 0x10000 := Nat.mod_lt _ (by decide)

theorem maskAddr_of_lt {addr : Nat} (h : addr < 0x10000) : maskAddr addr = addr := Nat.mod_eq_of_lt h

@[simp] theorem maskAddr_maskAddr (addr : Nat) : maskAddr (maskAddr addr) = maskAddr addr :=
  maskAddr_of_lt (maskAddr_lt addr)

/-- Writable addresses are those of RAM and SaveRAM (R56). -/
theorem writable_iff (a : Nat) : writable a = true ↔ a ≤ 0x1FFF ∨ (0x6000 ≤ a ∧ a ≤ 0x7FFF) := by
  constructor
  · intro h
    unfold writable region at h
    grind
  · intro h
    unfold writable region
    grind

theorem backed_of_writable {a : Nat} (h : writable a = true) : backed a = true := by
  unfold writable at h; unfold backed
  cases hr : region a <;> simp_all

/-- No address of RAM or SaveRAM is known to read as anything when unlisted. -/
theorem blank_of_writable {a : Nat} (h : writable a = true) : Memory.blank a = none := by
  unfold writable at h; unfold Memory.blank
  cases hr : region a <;> simp_all

/-- 0x2000 alone is the placeholder (R57). -/
theorem region_eq_placeholder_iff (a : Nat) : region a = .placeholder ↔ a = 0x2000 := by
  unfold region
  repeat' split
  all_goals simp_all
  all_goals omega

theorem Memory.cell_insertCell (m : Memory) (a b : Nat) (v : Byte) :
    Memory.cell (Memory.insertCell m a v) b = if b = a then some v else Memory.cell m b := by
  induction m with
  | nil => simp [Memory.insertCell, Memory.cell, eq_comm]
  | cons c m ih =>
    unfold Memory.insertCell
    split
    · rw [Memory.cell]; simp [eq_comm]
    · split
      · rename_i h1 h2
        by_cases h : b = a
        · simp [Memory.cell, h]
        · have hc : ¬ c.1 = b := fun e => h (e ▸ h2.symm)
          simp [Memory.cell, h, hc, Ne.symm h]
      · rename_i h1 h2
        by_cases hc : c.1 = b
        · have h : ¬ b = a := fun e => h2 (e ▸ hc.symm)
          simp [Memory.cell, hc, h]
        · simp [Memory.cell, hc, ih]

theorem Memory.cell_filter (m : Memory) (k : Nat → Bool) (b : Nat) :
    Memory.cell (m.filter fun c => k c.1) b = if k b then Memory.cell m b else none := by
  induction m with
  | nil => simp [Memory.cell]
  | cons c m ih =>
    by_cases hk : k c.1
    · rw [List.filter_cons_of_pos (by simpa using hk)]
      by_cases hc : c.1 = b
      · subst hc; simp [Memory.cell, hk]
      · simp [Memory.cell, hc, ih]
    · rw [List.filter_cons_of_neg (by simpa using hk), ih]
      by_cases hc : c.1 = b
      · subst hc; simp [hk]
      · simp [Memory.cell, hc]

theorem Memory.cell_eraseCell (m : Memory) (a b : Nat) :
    Memory.cell (Memory.eraseCell m a) b = if b = a then none else Memory.cell m b := by
  have h := Memory.cell_filter m (fun k => decide (k ≠ a)) b
  unfold Memory.eraseCell
  rw [h]
  by_cases e : b = a <;> simp [e]

theorem Memory.cell_withoutRam (m : Memory) (b : Nat) :
    Memory.cell (Memory.withoutRam m) b = if region b = .ram then none else Memory.cell m b := by
  have h := Memory.cell_filter m (fun k => decide (region k ≠ .ram)) b
  unfold Memory.withoutRam
  rw [h]
  by_cases e : region b = .ram <;> simp [e]

/-- What a stored byte makes of every read: the byte at its own address, as before at any other. -/
theorem Memory.byte_store (m : Memory) (rd d a b : Nat) (v : Byte) :
    Memory.byte (Memory.store m a v) rd d b =
      if maskAddr b = a ∧ backed a = true then v else Memory.byte m rd d b := by
  unfold Memory.store
  by_cases hb : backed a = true
  · simp only [hb, if_true, and_true]
    by_cases hbl : Memory.blank a = some v
    · simp only [hbl, if_true]
      by_cases e : maskAddr b = a
      · have hr : region a = .rom := by
          unfold Memory.blank at hbl; cases h : region a <;> simp_all
        simp [Memory.byte, Memory.cell_eraseCell, e, hb, Memory.unlisted, hr, hbl]
      · simp [Memory.byte, Memory.cell_eraseCell, e]
    · simp only [hbl, if_false]
      by_cases e : maskAddr b = a <;> simp [Memory.byte, Memory.cell_insertCell, e, hb]
  · simp [hb]

/-- `MemRead` after `MemWrite` (R55, R56, R65): the byte if it was stored, as before at any other address. -/
theorem Memory.byte_write (m : Memory) (rd d addr b : Nat) (v : Byte) :
    Memory.byte (Memory.write m addr v) rd d b =
      if maskAddr b = maskAddr addr ∧ writable (maskAddr addr) = true then v else Memory.byte m rd d b := by
  unfold Memory.write
  by_cases hw : writable (maskAddr addr) = true
  · simp [hw, Memory.byte_store, backed_of_writable hw]
  · simp [hw]

/-- Only a read of 0x2000 depends on the draw counter (R57). -/
theorem Memory.byte_draws (m : Memory) (rd d d' addr : Nat) (h : maskAddr addr ≠ 0x2000) :
    Memory.byte m rd d addr = Memory.byte m rd d' addr := by
  have hr : region (maskAddr addr) ≠ .placeholder := fun e => h ((region_eq_placeholder_iff _).1 e)
  unfold Memory.byte Memory.unlisted
  cases hc : region (maskAddr addr) <;> simp_all

theorem Memory.mem_insertCell {m : Memory} {a : Nat} {v : Byte} {c : Host.Cell} (h : c ∈ Memory.insertCell m a v) :
    c = (a, v) ∨ c ∈ m := by
  induction m with
  | nil => simpa [Memory.insertCell] using h
  | cons d m ih =>
    unfold Memory.insertCell at h
    split at h
    · simpa using h
    · split at h
      · rcases List.mem_cons.1 h with h | h
        · exact .inl h
        · exact .inr (List.mem_cons_of_mem _ h)
      · rcases List.mem_cons.1 h with h | h
        · exact .inr (h ▸ List.mem_cons_self)
        · exact (ih h).imp id (List.mem_cons_of_mem _)

theorem Memory.pairwise_insertCell {m : Memory} (hm : m.Pairwise fun c d => c.1 < d.1) (a : Nat) (v : Byte) :
    (Memory.insertCell m a v).Pairwise fun c d => c.1 < d.1 := by
  induction m with
  | nil => simp [Memory.insertCell]
  | cons c m ih =>
    obtain ⟨hc, hm'⟩ := List.pairwise_cons.1 hm
    unfold Memory.insertCell
    split
    · rename_i h
      refine List.pairwise_cons.2 ⟨fun d hd => ?_, hm⟩
      rcases List.mem_cons.1 hd with rfl | hd
      · exact h
      · exact Nat.lt_trans h (hc d hd)
    · split
      · rename_i h1 h2
        exact List.pairwise_cons.2 ⟨fun d hd => h2 ▸ hc d hd, hm'⟩
      · rename_i h1 h2
        refine List.pairwise_cons.2 ⟨fun d hd => ?_, ih hm'⟩
        rcases Memory.mem_insertCell hd with rfl | hd
        · show c.1 < a
          omega
        · exact hc d hd

/-- Dropping cells keeps the canonical form. -/
theorem Memory.wf_filter {m : Memory} (hm : Memory.wf m) (k : Host.Cell → Bool) : Memory.wf (m.filter k) :=
  ⟨hm.1.filter _, fun c hc => hm.2 c (List.mem_of_mem_filter hc)⟩

/-- The host's store keeps the canonical form. -/
theorem Memory.wf_store {m : Memory} (hm : Memory.wf m) (a : Nat) (v : Byte) : Memory.wf (Memory.store m a v) := by
  unfold Memory.store
  split
  · rename_i hb
    split
    · exact Memory.wf_filter hm _
    · rename_i hbl
      refine ⟨Memory.pairwise_insertCell hm.1 a v, fun c hc => ?_⟩
      rcases Memory.mem_insertCell hc with rfl | hc
      · exact ⟨hb, hbl⟩
      · exact hm.2 c hc
  · exact hm

/-- The core's write keeps the canonical form. -/
theorem Memory.wf_write {m : Memory} (hm : Memory.wf m) (addr : Nat) (v : Byte) : Memory.wf (Memory.write m addr v) := by
  unfold Memory.write
  dsimp only
  split
  · exact Memory.wf_store hm _ _
  · exact hm

/-- What a power-on leaves of memory is canonical. -/
theorem Memory.wf_withoutRam {m : Memory} (hm : Memory.wf m) : Memory.wf (Memory.withoutRam m) := Memory.wf_filter hm _

end Sys2Proof.Machine
end

