-- ==== Sys2Proof/Laws/State.lean ====
section
/-! SUPPORT. One lemma for each field of State under each named update, true by rfl. -/

namespace Sys2Proof.Machine.State

section
variable (s : State) (v : Byte)
@[simp] theorem setA_a : (s.setA v).a = v := rfl
@[simp] theorem setA_x : (s.setA v).x = s.x := rfl
@[simp] theorem setA_y : (s.setA v).y = s.y := rfl
@[simp] theorem setA_sp : (s.setA v).sp = s.sp := rfl
@[simp] theorem setA_p : (s.setA v).p = s.p := rfl
@[simp] theorem setA_pc : (s.setA v).pc = s.pc := rfl
@[simp] theorem setA_ready : (s.setA v).ready = s.ready := rfl
@[simp] theorem setA_fault : (s.setA v).fault = s.fault := rfl
@[simp] theorem setA_mem : (s.setA v).mem = s.mem := rfl
@[simp] theorem setA_ramDraw : (s.setA v).ramDraw = s.ramDraw := rfl
@[simp] theorem setA_draws : (s.setA v).draws = s.draws := rfl
end

section
variable (s : State) (v : Byte)
@[simp] theorem setX_a : (s.setX v).a = s.a := rfl
@[simp] theorem setX_x : (s.setX v).x = v := rfl
@[simp] theorem setX_y : (s.setX v).y = s.y := rfl
@[simp] theorem setX_sp : (s.setX v).sp = s.sp := rfl
@[simp] theorem setX_p : (s.setX v).p = s.p := rfl
@[simp] theorem setX_pc : (s.setX v).pc = s.pc := rfl
@[simp] theorem setX_ready : (s.setX v).ready = s.ready := rfl
@[simp] theorem setX_fault : (s.setX v).fault = s.fault := rfl
@[simp] theorem setX_mem : (s.setX v).mem = s.mem := rfl
@[simp] theorem setX_ramDraw : (s.setX v).ramDraw = s.ramDraw := rfl
@[simp] theorem setX_draws : (s.setX v).draws = s.draws := rfl
end

section
variable (s : State) (v : Byte)
@[simp] theorem setY_a : (s.setY v).a = s.a := rfl
@[simp] theorem setY_x : (s.setY v).x = s.x := rfl
@[simp] theorem setY_y : (s.setY v).y = v := rfl
@[simp] theorem setY_sp : (s.setY v).sp = s.sp := rfl
@[simp] theorem setY_p : (s.setY v).p = s.p := rfl
@[simp] theorem setY_pc : (s.setY v).pc = s.pc := rfl
@[simp] theorem setY_ready : (s.setY v).ready = s.ready := rfl
@[simp] theorem setY_fault : (s.setY v).fault = s.fault := rfl
@[simp] theorem setY_mem : (s.setY v).mem = s.mem := rfl
@[simp] theorem setY_ramDraw : (s.setY v).ramDraw = s.ramDraw := rfl
@[simp] theorem setY_draws : (s.setY v).draws = s.draws := rfl
end

section
variable (s : State) (v : Byte)
@[simp] theorem setSp_a : (s.setSp v).a = s.a := rfl
@[simp] theorem setSp_x : (s.setSp v).x = s.x := rfl
@[simp] theorem setSp_y : (s.setSp v).y = s.y := rfl
@[simp] theorem setSp_sp : (s.setSp v).sp = v := rfl
@[simp] theorem setSp_p : (s.setSp v).p = s.p := rfl
@[simp] theorem setSp_pc : (s.setSp v).pc = s.pc := rfl
@[simp] theorem setSp_ready : (s.setSp v).ready = s.ready := rfl
@[simp] theorem setSp_fault : (s.setSp v).fault = s.fault := rfl
@[simp] theorem setSp_mem : (s.setSp v).mem = s.mem := rfl
@[simp] theorem setSp_ramDraw : (s.setSp v).ramDraw = s.ramDraw := rfl
@[simp] theorem setSp_draws : (s.setSp v).draws = s.draws := rfl
end

section
variable (s : State) (v : Byte)
@[simp] theorem setP_a : (s.setP v).a = s.a := rfl
@[simp] theorem setP_x : (s.setP v).x = s.x := rfl
@[simp] theorem setP_y : (s.setP v).y = s.y := rfl
@[simp] theorem setP_sp : (s.setP v).sp = s.sp := rfl
@[simp] theorem setP_p : (s.setP v).p = v := rfl
@[simp] theorem setP_pc : (s.setP v).pc = s.pc := rfl
@[simp] theorem setP_ready : (s.setP v).ready = s.ready := rfl
@[simp] theorem setP_fault : (s.setP v).fault = s.fault := rfl
@[simp] theorem setP_mem : (s.setP v).mem = s.mem := rfl
@[simp] theorem setP_ramDraw : (s.setP v).ramDraw = s.ramDraw := rfl
@[simp] theorem setP_draws : (s.setP v).draws = s.draws := rfl
end

section
variable (s : State) (v : Addr)
@[simp] theorem setPc_a : (s.setPc v).a = s.a := rfl
@[simp] theorem setPc_x : (s.setPc v).x = s.x := rfl
@[simp] theorem setPc_y : (s.setPc v).y = s.y := rfl
@[simp] theorem setPc_sp : (s.setPc v).sp = s.sp := rfl
@[simp] theorem setPc_p : (s.setPc v).p = s.p := rfl
@[simp] theorem setPc_pc : (s.setPc v).pc = v := rfl
@[simp] theorem setPc_ready : (s.setPc v).ready = s.ready := rfl
@[simp] theorem setPc_fault : (s.setPc v).fault = s.fault := rfl
@[simp] theorem setPc_mem : (s.setPc v).mem = s.mem := rfl
@[simp] theorem setPc_ramDraw : (s.setPc v).ramDraw = s.ramDraw := rfl
@[simp] theorem setPc_draws : (s.setPc v).draws = s.draws := rfl
end

section
variable (s : State) (v : Bool)
@[simp] theorem setReady_a : (s.setReady v).a = s.a := rfl
@[simp] theorem setReady_x : (s.setReady v).x = s.x := rfl
@[simp] theorem setReady_y : (s.setReady v).y = s.y := rfl
@[simp] theorem setReady_sp : (s.setReady v).sp = s.sp := rfl
@[simp] theorem setReady_p : (s.setReady v).p = s.p := rfl
@[simp] theorem setReady_pc : (s.setReady v).pc = s.pc := rfl
@[simp] theorem setReady_ready : (s.setReady v).ready = v := rfl
@[simp] theorem setReady_fault : (s.setReady v).fault = s.fault := rfl
@[simp] theorem setReady_mem : (s.setReady v).mem = s.mem := rfl
@[simp] theorem setReady_ramDraw : (s.setReady v).ramDraw = s.ramDraw := rfl
@[simp] theorem setReady_draws : (s.setReady v).draws = s.draws := rfl
end

section
variable (s : State) (v : Option InvalidOpcode)
@[simp] theorem setFault_a : (s.setFault v).a = s.a := rfl
@[simp] theorem setFault_x : (s.setFault v).x = s.x := rfl
@[simp] theorem setFault_y : (s.setFault v).y = s.y := rfl
@[simp] theorem setFault_sp : (s.setFault v).sp = s.sp := rfl
@[simp] theorem setFault_p : (s.setFault v).p = s.p := rfl
@[simp] theorem setFault_pc : (s.setFault v).pc = s.pc := rfl
@[simp] theorem setFault_ready : (s.setFault v).ready = s.ready := rfl
@[simp] theorem setFault_fault : (s.setFault v).fault = v := rfl
@[simp] theorem setFault_mem : (s.setFault v).mem = s.mem := rfl
@[simp] theorem setFault_ramDraw : (s.setFault v).ramDraw = s.ramDraw := rfl
@[simp] theorem setFault_draws : (s.setFault v).draws = s.draws := rfl
end

section
variable (s : State) (v : Memory)
@[simp] theorem setMem_a : (s.setMem v).a = s.a := rfl
@[simp] theorem setMem_x : (s.setMem v).x = s.x := rfl
@[simp] theorem setMem_y : (s.setMem v).y = s.y := rfl
@[simp] theorem setMem_sp : (s.setMem v).sp = s.sp := rfl
@[simp] theorem setMem_p : (s.setMem v).p = s.p := rfl
@[simp] theorem setMem_pc : (s.setMem v).pc = s.pc := rfl
@[simp] theorem setMem_ready : (s.setMem v).ready = s.ready := rfl
@[simp] theorem setMem_fault : (s.setMem v).fault = s.fault := rfl
@[simp] theorem setMem_mem : (s.setMem v).mem = v := rfl
@[simp] theorem setMem_ramDraw : (s.setMem v).ramDraw = s.ramDraw := rfl
@[simp] theorem setMem_draws : (s.setMem v).draws = s.draws := rfl
end

section
variable (s : State) (v : Nat)
@[simp] theorem setRamDraw_a : (s.setRamDraw v).a = s.a := rfl
@[simp] theorem setRamDraw_x : (s.setRamDraw v).x = s.x := rfl
@[simp] theorem setRamDraw_y : (s.setRamDraw v).y = s.y := rfl
@[simp] theorem setRamDraw_sp : (s.setRamDraw v).sp = s.sp := rfl
@[simp] theorem setRamDraw_p : (s.setRamDraw v).p = s.p := rfl
@[simp] theorem setRamDraw_pc : (s.setRamDraw v).pc = s.pc := rfl
@[simp] theorem setRamDraw_ready : (s.setRamDraw v).ready = s.ready := rfl
@[simp] theorem setRamDraw_fault : (s.setRamDraw v).fault = s.fault := rfl
@[simp] theorem setRamDraw_mem : (s.setRamDraw v).mem = s.mem := rfl
@[simp] theorem setRamDraw_ramDraw : (s.setRamDraw v).ramDraw = v := rfl
@[simp] theorem setRamDraw_draws : (s.setRamDraw v).draws = s.draws := rfl
end

section
variable (s : State) (v : Nat)
@[simp] theorem setDraws_a : (s.setDraws v).a = s.a := rfl
@[simp] theorem setDraws_x : (s.setDraws v).x = s.x := rfl
@[simp] theorem setDraws_y : (s.setDraws v).y = s.y := rfl
@[simp] theorem setDraws_sp : (s.setDraws v).sp = s.sp := rfl
@[simp] theorem setDraws_p : (s.setDraws v).p = s.p := rfl
@[simp] theorem setDraws_pc : (s.setDraws v).pc = s.pc := rfl
@[simp] theorem setDraws_ready : (s.setDraws v).ready = s.ready := rfl
@[simp] theorem setDraws_fault : (s.setDraws v).fault = s.fault := rfl
@[simp] theorem setDraws_mem : (s.setDraws v).mem = s.mem := rfl
@[simp] theorem setDraws_ramDraw : (s.setDraws v).ramDraw = s.ramDraw := rfl
@[simp] theorem setDraws_draws : (s.setDraws v).draws = v := rfl
end

/-- Two states with the same fields are the same state. -/
theorem ext_fields {s t : State} (ha : s.a = t.a) (hx : s.x = t.x) (hy : s.y = t.y) (hsp : s.sp = t.sp) (hp : s.p = t.p)
    (hpc : s.pc = t.pc) (hready : s.ready = t.ready) (hfault : s.fault = t.fault) (hmem : s.mem = t.mem)
    (hramDraw : s.ramDraw = t.ramDraw) (hdraws : s.draws = t.draws) : s = t := by
  cases s; cases t; simp_all

end Sys2Proof.Machine.State
end

