-- ==== Sys2Proof/Laws/Ops.lean ====
section
/-! SUPPORT. What each shared operation over memory, the stack, the instruction stream and the addressing modes can do, said
once, so that no proof unfolds it. -/

namespace Sys2Proof.Machine

/-- Every address is masked at the access (20_memory.md R55). -/
theorem State.byteAt_maskAddr (s : State) (addr : Nat) : s.byteAt (maskAddr addr) = s.byteAt addr := by
  simp [State.byteAt, Memory.byte]

/-- A byte depends on memory and the two draw indices alone. -/
theorem State.byteAt_congr {s t : State} (hm : t.mem = s.mem) (hr : t.ramDraw = s.ramDraw) (hd : t.draws = s.draws)
    (addr : Nat) : t.byteAt addr = s.byteAt addr := by
  simp [State.byteAt, hm, hr, hd]

/-- Away from 0x2000 a byte depends on memory and the power-on draw alone. -/
theorem State.byteAt_congr_of_ne {s t : State} (hm : t.mem = s.mem) (hr : t.ramDraw = s.ramDraw) {addr : Nat}
    (h : maskAddr addr ≠ 0x2000) : t.byteAt addr = s.byteAt addr := by
  unfold State.byteAt
  rw [hm, hr]
  exact Memory.byte_draws _ _ _ _ _ h

theorem State.byteAt_setDraws {s : State} {addr : Nat} (h : maskAddr addr ≠ 0x2000) (n : Nat) :
    (s.setDraws n).byteAt addr = s.byteAt addr :=
  State.byteAt_congr_of_ne (s := s) (t := s.setDraws n) rfl rfl h

theorem drawsOf_eq (addr : Nat) : drawsOf addr = if maskAddr addr = 0x2000 then 1 else 0 := by
  simp [drawsOf, region_eq_placeholder_iff]

theorem drawsOf_of_ne {addr : Nat} (h : maskAddr addr ≠ 0x2000) : drawsOf addr = 0 := by
  rw [drawsOf_eq, if_neg h]

@[simp] theorem State.setDraws_self (s : State) : s.setDraws s.draws = s := rfl

/-- A read away from 0x2000 changes nothing (R55). -/
theorem readByte_of_ne {addr : Nat} (h : maskAddr addr ≠ 0x2000) (s : State) : readByte addr s = (s.byteAt addr, s) := by
  simp [readByte, drawsOf_of_ne h]

/-- A byte after a core write (R56, R65). -/
theorem byteAt_writeByte (addr b : Nat) (v : Byte) (s : State) :
    (writeByte addr v s).byteAt b =
      if maskAddr b = maskAddr addr ∧ writable (maskAddr addr) = true then v else s.byteAt b :=
  Memory.byte_write _ _ _ _ _ _

/-- The two reads of a word: the second sees the draw the first took. -/
theorem readPair_eq (lo hi : Nat) (s : State) :
    readPair lo hi s =
      (joinBytes ((s.setDraws (s.draws + drawsOf lo)).byteAt hi) (s.byteAt lo),
        s.setDraws (s.draws + drawsOf lo + drawsOf hi)) := rfl

/-- Where no byte of a word is at 0x2000, both bytes are those of the state and nothing changes. -/
theorem readPair_of_ne {lo hi : Nat} (hl : maskAddr lo ≠ 0x2000) (hh : maskAddr hi ≠ 0x2000) (s : State) :
    readPair lo hi s = (joinBytes (s.byteAt hi) (s.byteAt lo), s) := by
  simp [readPair_eq, drawsOf_of_ne hl, drawsOf_of_ne hh]

/-- `Fetch8()` (10_state.md R24). -/
theorem fetch8_eq (s : State) :
    fetch8 s = (s.byteAt s.pc.toNat, (s.setDraws (s.draws + drawsOf s.pc.toNat)).setPc (s.pc + 1)) := rfl

/-- A fetch reads the byte PC names, wherever PC is put (20_memory.md R67). -/
theorem fetch8_setPc_fst (s : State) (pc : Addr) : (fetch8 { s with pc }).1 = s.byteAt pc.toNat := rfl

/-- The stack is page 1 (R23). -/
theorem stackAddr_eq (sp : Byte) : stackAddr sp = 0x100 + sp.toNat := by
  exact (Nat.two_pow_add_eq_or_of_lt (i := 8) sp.isLt 1).symm

theorem stackAddr_lt (sp : Byte) : stackAddr sp < 0x200 := by
  rw [stackAddr_eq]
  omega

theorem maskAddr_stackAddr (sp : Byte) : maskAddr (stackAddr sp) = stackAddr sp :=
  maskAddr_of_lt (Nat.lt_trans (stackAddr_lt sp) (by decide))

theorem stackAddr_ne_placeholder (sp : Byte) : maskAddr (stackAddr sp) ≠ 0x2000 := by
  have := stackAddr_lt sp
  rw [maskAddr_stackAddr]
  omega

theorem writable_stackAddr (sp : Byte) : writable (stackAddr sp) = true := by
  have := stackAddr_lt sp
  exact (writable_iff _).2 (.inl (by omega))

theorem stackAddr_injective {p q : Byte} (h : stackAddr p = stackAddr q) : p = q := by
  rw [stackAddr_eq, stackAddr_eq] at h
  exact BitVec.eq_of_toNat_eq (by omega)

/-- `Push8(v)`: S one less, and one byte of page 1 stored (R32). -/
theorem push8_eq (v : Byte) (s : State) :
    push8 v s = (s.setMem (Memory.write s.mem (stackAddr s.sp) v)).setSp (s.sp - 1) := rfl

theorem byteAt_push8 (v : Byte) (b : Nat) (s : State) :
    (push8 v s).byteAt b = if maskAddr b = stackAddr s.sp then v else s.byteAt b := by
  have h := byteAt_writeByte (stackAddr s.sp) b v s
  rw [maskAddr_stackAddr] at h
  simp only [writable_stackAddr, and_true] at h
  exact h

/-- `Pull8()`: the byte above S, S one more, and nothing else (R33). -/
theorem pull8_eq (s : State) : pull8 s = (s.byteAt (stackAddr (s.sp + 1)), s.setSp (s.sp + 1)) := by
  unfold pull8
  rw [readByte_of_ne (stackAddr_ne_placeholder _)]
  rfl

/-- `Pull16()` (R35). -/
theorem pull16_eq (s : State) :
    pull16 s =
      (joinBytes (s.byteAt (stackAddr (s.sp + 1 + 1))) (s.byteAt (stackAddr (s.sp + 1))), s.setSp (s.sp + 1 + 1)) := by
  simp only [pull16, pull8_eq, State.setSp_sp]
  rfl

/-- `Push16(v)` (R34). -/
theorem push16_eq (v : Addr) (s : State) : push16 v s = push8 (lowByte v) (push8 (highByte v) s) := rfl

/-- A zero-page pointer lies in pages 0 and 1, so that reading one takes no draw (40_addressing.md R111, R112). -/
theorem zpPointer_ne_placeholder (wrap : Bool) {zp : Nat} (h : zp < 0x100) :
    maskAddr zp ≠ 0x2000 ∧ maskAddr (zpPointerHigh wrap zp) ≠ 0x2000 := by
  have h2 : zpPointerHigh wrap zp < 0x200 := by
    unfold zpPointerHigh
    split
    · exact Nat.lt_of_le_of_lt (Nat.and_le_right) (by decide)
    · omega
  rw [maskAddr_of_lt (by omega), maskAddr_of_lt (by omega)]
  omega

theorem readZpPointer_eq (wrap : Bool) {zp : Nat} (h : zp < 0x100) (s : State) :
    readZpPointer wrap zp s = (joinBytes (s.byteAt (zpPointerHigh wrap zp)) (s.byteAt zp), s) :=
  readPair_of_ne (zpPointer_ne_placeholder wrap h).1 (zpPointer_ne_placeholder wrap h).2 s

/-- The resolver changes no state (R100, R115). -/
theorem effectiveAddress_snd (r : MemRef) (s : State) : (effectiveAddress r s).2 = s := by
  have h (n : Nat) : n &&& 0xFF < 0x100 := Nat.lt_of_le_of_lt Nat.and_le_right (by decide)
  have h' (d8 : Byte) : d8.toNat < 0x100 := d8.isLt
  cases r <;> simp [effectiveAddress, effectiveAddressWith, readZpPointer_eq, h, h']

/-- The draws a source takes: one when it reads 0x2000, else none. -/
def sourceDraws : Source → State → Nat
  | .immediate _, _ => 0
  | .memory r, s => drawsOf (effectiveAddress r s).1

/-- The byte a source names. -/
def sourceByte : Source → State → Byte
  | .immediate d8, _ => d8
  | .memory r, s => s.byteAt (effectiveAddress r s).1

/-- `Operand(m)`: one byte, and no change of state but the draw count (R103, R114). -/
theorem readOperand_eq (src : Source) (s : State) :
    readOperand src s = (sourceByte src s, s.setDraws (s.draws + sourceDraws src s)) := by
  cases src with
  | immediate d8 => rfl
  | memory r =>
    simp only [readOperand, effectiveAddress_snd]
    rfl

/-- A store is one write at the effective address, and nothing else (R114). -/
theorem writeOperand_eq (r : MemRef) (v : Byte) (s : State) :
    writeOperand r v s = writeByte (effectiveAddress r s).1 v s := by
  simp [writeOperand, effectiveAddress_snd]

theorem indirectTarget_eq (d16 : Addr) (s : State) :
    indirectTarget d16 s =
      (joinBytes ((s.setDraws (s.draws + drawsOf d16.toNat)).byteAt (d16.toNat + 1)) (s.byteAt d16.toNat),
        s.setDraws (s.draws + drawsOf d16.toNat + drawsOf (d16.toNat + 1))) := rfl

end Sys2Proof.Machine
end

