-- ==== Sys2Proof/Laws/Effects.lean ====
section
/-! SUPPORT. The shared operations of the meanings in the terms of Safety.lean: which flags a status function sets, what one
write stores, and each operation as one equation. -/

namespace Sys2Proof.Machine

theorem flagsSet_setFlag (f : Flag) (b : Bool) (p : Byte) : FlagsSet p (setFlag f b p) [(f, b)] := by
  intro g
  rw [getFlag_setFlag]
  cases f <;> cases g <;> rfl

theorem flagsSet_setNZ (v p : Byte) : FlagsSet p (setNZ v p) (nzOf v) := by
  intro f
  rw [getFlag_setNZ]
  cases f <;> rfl

theorem flagsSet_shiftStatus (r : Byte × Bool) (p : Byte) : FlagsSet p (shiftStatus r p) ((.C, r.2) :: nzOf r.1) := by
  intro f
  rw [getFlag_shiftStatus]
  cases f <;> rfl

theorem flagsSet_compareStatus (reg m p : Byte) :
    FlagsSet p (compareStatus reg m p)
      [(.C, decide (reg.toNat ≥ m.toNat)), (.Z, reg == m), (.N, (reg - m).getLsbD 7)] := by
  intro f
  rw [getFlag_compareStatus]
  cases f <;> rfl

theorem flagsSet_bitStatus (a m p : Byte) :
    FlagsSet p (bitStatus a m p) [(.Z, a &&& m == 0), (.N, m.getLsbD 7), (.V, m.getLsbD 6)] := by
  intro f
  rw [getFlag_bitStatus]
  cases f <;> rfl

/-- Stores is the reach of a core write (20_memory.md R56). -/
theorem stores_iff_writable (addr : Nat) : Stores addr ↔ writable addr = true := (writable_iff addr).symm

/-- A state that reads as another after one write has that one byte stored. -/
theorem storedOnly_of_byteAt {s t : State} {ea : Nat} {v : Byte} (h : ∀ b, t.byteAt b = (writeByte ea v s).byteAt b) :
    StoredOnly s t (maskAddr ea) v := by
  constructor
  · intro hs
    rw [h, byteAt_writeByte, if_pos ⟨maskAddr_maskAddr ea, (stores_iff_writable _).1 hs⟩]
  · intro b hb _ hn
    rw [h, byteAt_writeByte, maskAddr_of_lt hb, if_neg]
    rwa [← stores_iff_writable]

/-- A masked address is the PC of a fetch there. -/
theorem toNat_ofNat_of_stores {ea : Nat} (h : Stores ea) : (BitVec.ofNat 16 ea).toNat = ea := by
  rw [BitVec.toNat_ofNat]
  unfold Stores at h
  omega

/-- What one stored byte is, the next fetch at its address reads (20_memory.md R67). -/
theorem StoredOnly.fetch8 {s t : State} {ea : Nat} {v : Byte} (h : StoredOnly s t ea v) (hs : Stores ea) :
    (Machine.fetch8 { t with pc := BitVec.ofNat 16 ea }).1 = v := by
  rw [fetch8_setPc_fst, toNat_ofNat_of_stores hs]
  exact h.1 hs

/-- One stored byte leaves ROM as the fetch reads it (20_memory.md R54). -/
theorem StoredOnly.fetch8_rom {s t : State} {ea : Nat} {v : Byte} (h : StoredOnly s t ea v) {pc : Addr}
    (hp : 0x8000 ≤ pc.toNat) : (Machine.fetch8 { t with pc }).1 = s.byteAt pc.toNat := by
  rw [fetch8_setPc_fst]
  have hlt : pc.toNat < 0x10000 := pc.isLt
  refine h.2 _ hlt (by omega) ?_
  rintro ⟨he, hs⟩
  unfold Stores at hs
  omega

/-- Where memory and the power-on draw are as before, every byte is. -/
theorem bytesKept_of_mem {s t : State} (hm : t.mem = s.mem) (hr : t.ramDraw = s.ramDraw) (changed : Nat → Prop) :
    BytesKept s t changed := by
  intro b hb hne _
  exact State.byteAt_congr_of_ne hm hr (by rwa [maskAddr_of_lt hb])

/-- Where memory is as after one core write, every byte but the one written is as before. -/
theorem bytesKept_of_write {s t : State} {ea : Nat} {v : Byte} (hm : t.mem = Memory.write s.mem ea v)
    (hr : t.ramDraw = s.ramDraw) {changed : Nat → Prop} (hc : changed (maskAddr ea)) : BytesKept s t changed := by
  intro b hb hne hn
  have h : t.byteAt b = (writeByte ea v s).byteAt b :=
    State.byteAt_congr_of_ne (s := writeByte ea v s) (t := t) hm hr (by rwa [maskAddr_of_lt hb])
  rw [h, byteAt_writeByte, if_neg]
  rintro ⟨he, _⟩
  rw [maskAddr_of_lt hb] at he
  exact hn (he ▸ hc)

/-- Reading a source, in the terms of the statements. -/
theorem readOperand_eq_operandOf (src : Source) (s : State) :
    readOperand src s = (operandOf src s, s.setDraws (drawsAfter src s)) := by
  unfold operandOf drawsAfter
  rw [readOperand_eq]
  rfl

theorem load_eq (set : State → Byte → State) (src : Source) (s : State) :
    load set src s = writeRegNZ set (operandOf src s) (s.setDraws (drawsAfter src s)) := by
  simp only [load, readOperand_eq_operandOf]

theorem logical_eq (op : Byte → Byte → Byte) (src : Source) (s : State) :
    logical op src s = writeRegNZ State.setA (op s.a (operandOf src s)) (s.setDraws (drawsAfter src s)) := by
  simp only [logical, readOperand_eq_operandOf]

theorem testBits_eq (r : MemRef) (s : State) :
    testBits r s =
      (s.setDraws (drawsAfter (.memory r) s)).setP (bitStatus s.a (operandOf (.memory r) s) s.p) := by
  simp only [testBits, readOperand_eq_operandOf]

theorem compareWith_eq (reg : Byte) (src : Source) (s : State) :
    compareWith reg src s = (s.setDraws (drawsAfter src s)).setP (compareStatus reg (operandOf src s) s.p) := by
  simp only [compareWith, readOperand_eq_operandOf]

theorem addWithCarry_eq (w : Bool) (src : Source) (s : State) :
    addWithCarry w src s =
      ((s.setDraws (drawsAfter src s)).setA (adcResult s.a (operandOf src s) (getFlag .C s.p))).setP
        (adcStatus w s.a (operandOf src s) s.p) := by
  simp only [addWithCarry, readOperand_eq_operandOf]

theorem subtractWithCarry_eq (w : Bool) (src : Source) (s : State) :
    subtractWithCarry w src s =
      ((s.setDraws (drawsAfter src s)).setA (sbcResult s.a (operandOf src s) (getFlag .C s.p))).setP
        (sbcStatus w s.a (operandOf src s) s.p) := by
  simp only [subtractWithCarry, readOperand_eq_operandOf]

/-- A shift of memory: one read, the flags, one write at the same address (40_addressing.md R114). -/
theorem shiftTarget_memory (f : Byte → Bool → Byte × Bool) (r : MemRef) (s : State) :
    shiftTarget f (.memory r) s =
      writeByte (effectiveAddress r s).1 (f (operandOf (.memory r) s) (getFlag .C s.p)).1
        ((s.setDraws (drawsAfter (.memory r) s)).setP
          (shiftStatus (f (operandOf (.memory r) s) (getFlag .C s.p)) s.p)) := by
  have h := readOperand_eq_operandOf (.memory r) s
  simp only [readOperand, effectiveAddress_snd] at h
  simp only [shiftTarget, effectiveAddress_snd, h]

/-- INC and DEC: one read, the flags, one write at the same address. -/
theorem modifyMemory_eq (f : Byte → Byte) (r : MemRef) (s : State) :
    modifyMemory f r s =
      writeByte (effectiveAddress r s).1 (f (operandOf (.memory r) s))
        ((s.setDraws (drawsAfter (.memory r) s)).setP (setNZ (f (operandOf (.memory r) s)) s.p)) := by
  have h := readOperand_eq_operandOf (.memory r) s
  simp only [readOperand, effectiveAddress_snd] at h
  simp only [modifyMemory, effectiveAddress_snd, h]

theorem pullA_eq (s : State) :
    pullA s = writeRegNZ State.setA (s.byteAt (stackAddr (s.sp + 1))) (s.setSp (s.sp + 1)) := by
  simp only [pullA, pull8_eq]

theorem pullP_eq (s : State) : pullP s = (s.setSp (s.sp + 1)).setP (s.byteAt (stackAddr (s.sp + 1))) := by
  simp only [pullP, pull8_eq]

/-- An invalid opcode: one byte fetched, and the offending value answered (60_exceptions.md R233). -/
theorem fetchInstr_of_invalid {s : State} (h : dispatcher (s.byteAt s.pc.toNat) = none) :
    fetchInstr s =
      (.error (s.byteAt s.pc.toNat), (s.setDraws (s.draws + drawsOf s.pc.toNat)).setPc (s.pc + 1)) := by
  unfold fetchInstr
  simp only [fetch8_eq, h]

theorem decodeOpcode_eq_none (op : Byte) : decodeOpcode op = none ↔ dispatcher op = none := by simp [decodeOpcode]

end Sys2Proof.Machine
end

