-- ==== Sys2Proof/Laws/PerInstr.lean ====
section
/-! SUPPORT. The family Dispatched, one lemma for each constructor of Instr: it is well formed, and the dispatcher (written by
opcode value, 30_encoding.md R87) gives it for its opcode byte (written by mnemonic, R86) and its operand bytes. -/

/-- The instruction is well formed and is what the dispatcher has for its opcode byte, with its own operand. -/
def Sys2Proof.Laws.Dispatched.Statement (i : Sys2Proof.Instr) : Prop :=
  i.wellFormed = true ∧
    match i.operand.bytes with
    | [] => Sys2Proof.dispatcher i.opcode = some (.noOperand i)
    | [d] => ∃ mk, Sys2Proof.dispatcher i.opcode = some (.byteOperand mk) ∧ mk d = i
    | [lo, hi] => ∃ mk, Sys2Proof.dispatcher i.opcode = some (.wordOperand mk) ∧ mk (Sys2Proof.joinBytes hi lo) = i
    | _ => False

namespace Sys2Proof.Laws.Dispatched

theorem tax : Statement .tax := ⟨rfl, rfl⟩
theorem tay : Statement .tay := ⟨rfl, rfl⟩
theorem txa : Statement .txa := ⟨rfl, rfl⟩
theorem tya : Statement .tya := ⟨rfl, rfl⟩
theorem tsx : Statement .tsx := ⟨rfl, rfl⟩
theorem txs : Statement .txs := ⟨rfl, rfl⟩
theorem ldaImmediate (d8 : Byte) : Statement (.ldaImmediate d8) := ⟨rfl, _, rfl, rfl⟩
theorem ldaZeroPage (d8 : Byte) : Statement (.ldaZeroPage d8) := ⟨rfl, _, rfl, rfl⟩
theorem ldaZeroPageX (d8 : Byte) : Statement (.ldaZeroPageX d8) := ⟨rfl, _, rfl, rfl⟩
theorem ldaAbsolute (d16 : Addr) : Statement (.ldaAbsolute d16) := ⟨rfl, _, rfl, congrArg Instr.ldaAbsolute (joinBytes_highByte_lowByte d16)⟩
theorem ldaAbsoluteX (d16 : Addr) : Statement (.ldaAbsoluteX d16) := ⟨rfl, _, rfl, congrArg Instr.ldaAbsoluteX (joinBytes_highByte_lowByte d16)⟩
theorem ldaAbsoluteY (d16 : Addr) : Statement (.ldaAbsoluteY d16) := ⟨rfl, _, rfl, congrArg Instr.ldaAbsoluteY (joinBytes_highByte_lowByte d16)⟩
theorem ldaIndexedIndirect (d8 : Byte) : Statement (.ldaIndexedIndirect d8) := ⟨rfl, _, rfl, rfl⟩
theorem ldaIndirectIndexed (d8 : Byte) : Statement (.ldaIndirectIndexed d8) := ⟨rfl, _, rfl, rfl⟩
theorem ldxImmediate (d8 : Byte) : Statement (.ldxImmediate d8) := ⟨rfl, _, rfl, rfl⟩
theorem ldxZeroPage (d8 : Byte) : Statement (.ldxZeroPage d8) := ⟨rfl, _, rfl, rfl⟩
theorem ldxZeroPageY (d8 : Byte) : Statement (.ldxZeroPageY d8) := ⟨rfl, _, rfl, rfl⟩
theorem ldxAbsolute (d16 : Addr) : Statement (.ldxAbsolute d16) := ⟨rfl, _, rfl, congrArg Instr.ldxAbsolute (joinBytes_highByte_lowByte d16)⟩
theorem ldxAbsoluteY (d16 : Addr) : Statement (.ldxAbsoluteY d16) := ⟨rfl, _, rfl, congrArg Instr.ldxAbsoluteY (joinBytes_highByte_lowByte d16)⟩
theorem ldyImmediate (d8 : Byte) : Statement (.ldyImmediate d8) := ⟨rfl, _, rfl, rfl⟩
theorem ldyZeroPage (d8 : Byte) : Statement (.ldyZeroPage d8) := ⟨rfl, _, rfl, rfl⟩
theorem ldyZeroPageX (d8 : Byte) : Statement (.ldyZeroPageX d8) := ⟨rfl, _, rfl, rfl⟩
theorem ldyAbsolute (d16 : Addr) : Statement (.ldyAbsolute d16) := ⟨rfl, _, rfl, congrArg Instr.ldyAbsolute (joinBytes_highByte_lowByte d16)⟩
theorem ldyAbsoluteX (d16 : Addr) : Statement (.ldyAbsoluteX d16) := ⟨rfl, _, rfl, congrArg Instr.ldyAbsoluteX (joinBytes_highByte_lowByte d16)⟩
theorem staZeroPage (d8 : Byte) : Statement (.staZeroPage d8) := ⟨rfl, _, rfl, rfl⟩
theorem staZeroPageX (d8 : Byte) : Statement (.staZeroPageX d8) := ⟨rfl, _, rfl, rfl⟩
theorem staAbsolute (d16 : Addr) : Statement (.staAbsolute d16) := ⟨rfl, _, rfl, congrArg Instr.staAbsolute (joinBytes_highByte_lowByte d16)⟩
theorem staAbsoluteX (d16 : Addr) : Statement (.staAbsoluteX d16) := ⟨rfl, _, rfl, congrArg Instr.staAbsoluteX (joinBytes_highByte_lowByte d16)⟩
theorem staAbsoluteY (d16 : Addr) : Statement (.staAbsoluteY d16) := ⟨rfl, _, rfl, congrArg Instr.staAbsoluteY (joinBytes_highByte_lowByte d16)⟩
theorem staIndexedIndirect (d8 : Byte) : Statement (.staIndexedIndirect d8) := ⟨rfl, _, rfl, rfl⟩
theorem staIndirectIndexed (d8 : Byte) : Statement (.staIndirectIndexed d8) := ⟨rfl, _, rfl, rfl⟩
theorem stxZeroPage (d8 : Byte) : Statement (.stxZeroPage d8) := ⟨rfl, _, rfl, rfl⟩
theorem stxZeroPageY (d8 : Byte) : Statement (.stxZeroPageY d8) := ⟨rfl, _, rfl, rfl⟩
theorem stxAbsolute (d16 : Addr) : Statement (.stxAbsolute d16) := ⟨rfl, _, rfl, congrArg Instr.stxAbsolute (joinBytes_highByte_lowByte d16)⟩
theorem styZeroPage (d8 : Byte) : Statement (.styZeroPage d8) := ⟨rfl, _, rfl, rfl⟩
theorem styZeroPageX (d8 : Byte) : Statement (.styZeroPageX d8) := ⟨rfl, _, rfl, rfl⟩
theorem styAbsolute (d16 : Addr) : Statement (.styAbsolute d16) := ⟨rfl, _, rfl, congrArg Instr.styAbsolute (joinBytes_highByte_lowByte d16)⟩
theorem adcImmediate (d8 : Byte) : Statement (.adcImmediate d8) := ⟨rfl, _, rfl, rfl⟩
theorem adcZeroPage (d8 : Byte) : Statement (.adcZeroPage d8) := ⟨rfl, _, rfl, rfl⟩
theorem adcZeroPageX (d8 : Byte) : Statement (.adcZeroPageX d8) := ⟨rfl, _, rfl, rfl⟩
theorem adcAbsolute (d16 : Addr) : Statement (.adcAbsolute d16) := ⟨rfl, _, rfl, congrArg Instr.adcAbsolute (joinBytes_highByte_lowByte d16)⟩
theorem adcAbsoluteX (d16 : Addr) : Statement (.adcAbsoluteX d16) := ⟨rfl, _, rfl, congrArg Instr.adcAbsoluteX (joinBytes_highByte_lowByte d16)⟩
theorem adcAbsoluteY (d16 : Addr) : Statement (.adcAbsoluteY d16) := ⟨rfl, _, rfl, congrArg Instr.adcAbsoluteY (joinBytes_highByte_lowByte d16)⟩
theorem adcIndexedIndirect (d8 : Byte) : Statement (.adcIndexedIndirect d8) := ⟨rfl, _, rfl, rfl⟩
theorem adcIndirectIndexed (d8 : Byte) : Statement (.adcIndirectIndexed d8) := ⟨rfl, _, rfl, rfl⟩
theorem sbcImmediate (d8 : Byte) : Statement (.sbcImmediate d8) := ⟨rfl, _, rfl, rfl⟩
theorem sbcZeroPage (d8 : Byte) : Statement (.sbcZeroPage d8) := ⟨rfl, _, rfl, rfl⟩
theorem sbcZeroPageX (d8 : Byte) : Statement (.sbcZeroPageX d8) := ⟨rfl, _, rfl, rfl⟩
theorem sbcAbsolute (d16 : Addr) : Statement (.sbcAbsolute d16) := ⟨rfl, _, rfl, congrArg Instr.sbcAbsolute (joinBytes_highByte_lowByte d16)⟩
theorem sbcAbsoluteX (d16 : Addr) : Statement (.sbcAbsoluteX d16) := ⟨rfl, _, rfl, congrArg Instr.sbcAbsoluteX (joinBytes_highByte_lowByte d16)⟩
theorem sbcAbsoluteY (d16 : Addr) : Statement (.sbcAbsoluteY d16) := ⟨rfl, _, rfl, congrArg Instr.sbcAbsoluteY (joinBytes_highByte_lowByte d16)⟩
theorem sbcIndexedIndirect (d8 : Byte) : Statement (.sbcIndexedIndirect d8) := ⟨rfl, _, rfl, rfl⟩
theorem sbcIndirectIndexed (d8 : Byte) : Statement (.sbcIndirectIndexed d8) := ⟨rfl, _, rfl, rfl⟩
theorem andImmediate (d8 : Byte) : Statement (.andImmediate d8) := ⟨rfl, _, rfl, rfl⟩
theorem andZeroPage (d8 : Byte) : Statement (.andZeroPage d8) := ⟨rfl, _, rfl, rfl⟩
theorem andZeroPageX (d8 : Byte) : Statement (.andZeroPageX d8) := ⟨rfl, _, rfl, rfl⟩
theorem andAbsolute (d16 : Addr) : Statement (.andAbsolute d16) := ⟨rfl, _, rfl, congrArg Instr.andAbsolute (joinBytes_highByte_lowByte d16)⟩
theorem andAbsoluteX (d16 : Addr) : Statement (.andAbsoluteX d16) := ⟨rfl, _, rfl, congrArg Instr.andAbsoluteX (joinBytes_highByte_lowByte d16)⟩
theorem andAbsoluteY (d16 : Addr) : Statement (.andAbsoluteY d16) := ⟨rfl, _, rfl, congrArg Instr.andAbsoluteY (joinBytes_highByte_lowByte d16)⟩
theorem andIndexedIndirect (d8 : Byte) : Statement (.andIndexedIndirect d8) := ⟨rfl, _, rfl, rfl⟩
theorem andIndirectIndexed (d8 : Byte) : Statement (.andIndirectIndexed d8) := ⟨rfl, _, rfl, rfl⟩
theorem oraImmediate (d8 : Byte) : Statement (.oraImmediate d8) := ⟨rfl, _, rfl, rfl⟩
theorem oraZeroPage (d8 : Byte) : Statement (.oraZeroPage d8) := ⟨rfl, _, rfl, rfl⟩
theorem oraZeroPageX (d8 : Byte) : Statement (.oraZeroPageX d8) := ⟨rfl, _, rfl, rfl⟩
theorem oraAbsolute (d16 : Addr) : Statement (.oraAbsolute d16) := ⟨rfl, _, rfl, congrArg Instr.oraAbsolute (joinBytes_highByte_lowByte d16)⟩
theorem oraAbsoluteX (d16 : Addr) : Statement (.oraAbsoluteX d16) := ⟨rfl, _, rfl, congrArg Instr.oraAbsoluteX (joinBytes_highByte_lowByte d16)⟩
theorem oraAbsoluteY (d16 : Addr) : Statement (.oraAbsoluteY d16) := ⟨rfl, _, rfl, congrArg Instr.oraAbsoluteY (joinBytes_highByte_lowByte d16)⟩
theorem oraIndexedIndirect (d8 : Byte) : Statement (.oraIndexedIndirect d8) := ⟨rfl, _, rfl, rfl⟩
theorem oraIndirectIndexed (d8 : Byte) : Statement (.oraIndirectIndexed d8) := ⟨rfl, _, rfl, rfl⟩
theorem eorImmediate (d8 : Byte) : Statement (.eorImmediate d8) := ⟨rfl, _, rfl, rfl⟩
theorem eorZeroPage (d8 : Byte) : Statement (.eorZeroPage d8) := ⟨rfl, _, rfl, rfl⟩
theorem eorZeroPageX (d8 : Byte) : Statement (.eorZeroPageX d8) := ⟨rfl, _, rfl, rfl⟩
theorem eorAbsolute (d16 : Addr) : Statement (.eorAbsolute d16) := ⟨rfl, _, rfl, congrArg Instr.eorAbsolute (joinBytes_highByte_lowByte d16)⟩
theorem eorAbsoluteX (d16 : Addr) : Statement (.eorAbsoluteX d16) := ⟨rfl, _, rfl, congrArg Instr.eorAbsoluteX (joinBytes_highByte_lowByte d16)⟩
theorem eorAbsoluteY (d16 : Addr) : Statement (.eorAbsoluteY d16) := ⟨rfl, _, rfl, congrArg Instr.eorAbsoluteY (joinBytes_highByte_lowByte d16)⟩
theorem eorIndexedIndirect (d8 : Byte) : Statement (.eorIndexedIndirect d8) := ⟨rfl, _, rfl, rfl⟩
theorem eorIndirectIndexed (d8 : Byte) : Statement (.eorIndirectIndexed d8) := ⟨rfl, _, rfl, rfl⟩
theorem bitZeroPage (d8 : Byte) : Statement (.bitZeroPage d8) := ⟨rfl, _, rfl, rfl⟩
theorem bitAbsolute (d16 : Addr) : Statement (.bitAbsolute d16) := ⟨rfl, _, rfl, congrArg Instr.bitAbsolute (joinBytes_highByte_lowByte d16)⟩
theorem aslAccumulator : Statement .aslAccumulator := ⟨rfl, rfl⟩
theorem aslZeroPage (d8 : Byte) : Statement (.aslZeroPage d8) := ⟨rfl, _, rfl, rfl⟩
theorem aslZeroPageX (d8 : Byte) : Statement (.aslZeroPageX d8) := ⟨rfl, _, rfl, rfl⟩
theorem aslAbsolute (d16 : Addr) : Statement (.aslAbsolute d16) := ⟨rfl, _, rfl, congrArg Instr.aslAbsolute (joinBytes_highByte_lowByte d16)⟩
theorem aslAbsoluteX (d16 : Addr) : Statement (.aslAbsoluteX d16) := ⟨rfl, _, rfl, congrArg Instr.aslAbsoluteX (joinBytes_highByte_lowByte d16)⟩
theorem lsrAccumulator : Statement .lsrAccumulator := ⟨rfl, rfl⟩
theorem lsrZeroPage (d8 : Byte) : Statement (.lsrZeroPage d8) := ⟨rfl, _, rfl, rfl⟩
theorem lsrZeroPageX (d8 : Byte) : Statement (.lsrZeroPageX d8) := ⟨rfl, _, rfl, rfl⟩
theorem lsrAbsolute (d16 : Addr) : Statement (.lsrAbsolute d16) := ⟨rfl, _, rfl, congrArg Instr.lsrAbsolute (joinBytes_highByte_lowByte d16)⟩
theorem lsrAbsoluteX (d16 : Addr) : Statement (.lsrAbsoluteX d16) := ⟨rfl, _, rfl, congrArg Instr.lsrAbsoluteX (joinBytes_highByte_lowByte d16)⟩
theorem rolAccumulator : Statement .rolAccumulator := ⟨rfl, rfl⟩
theorem rolZeroPage (d8 : Byte) : Statement (.rolZeroPage d8) := ⟨rfl, _, rfl, rfl⟩
theorem rolZeroPageX (d8 : Byte) : Statement (.rolZeroPageX d8) := ⟨rfl, _, rfl, rfl⟩
theorem rolAbsolute (d16 : Addr) : Statement (.rolAbsolute d16) := ⟨rfl, _, rfl, congrArg Instr.rolAbsolute (joinBytes_highByte_lowByte d16)⟩
theorem rolAbsoluteX (d16 : Addr) : Statement (.rolAbsoluteX d16) := ⟨rfl, _, rfl, congrArg Instr.rolAbsoluteX (joinBytes_highByte_lowByte d16)⟩
theorem rorAccumulator : Statement .rorAccumulator := ⟨rfl, rfl⟩
theorem rorZeroPage (d8 : Byte) : Statement (.rorZeroPage d8) := ⟨rfl, _, rfl, rfl⟩
theorem rorZeroPageX (d8 : Byte) : Statement (.rorZeroPageX d8) := ⟨rfl, _, rfl, rfl⟩
theorem rorAbsolute (d16 : Addr) : Statement (.rorAbsolute d16) := ⟨rfl, _, rfl, congrArg Instr.rorAbsolute (joinBytes_highByte_lowByte d16)⟩
theorem rorAbsoluteX (d16 : Addr) : Statement (.rorAbsoluteX d16) := ⟨rfl, _, rfl, congrArg Instr.rorAbsoluteX (joinBytes_highByte_lowByte d16)⟩
theorem incZeroPage (d8 : Byte) : Statement (.incZeroPage d8) := ⟨rfl, _, rfl, rfl⟩
theorem incZeroPageX (d8 : Byte) : Statement (.incZeroPageX d8) := ⟨rfl, _, rfl, rfl⟩
theorem incAbsolute (d16 : Addr) : Statement (.incAbsolute d16) := ⟨rfl, _, rfl, congrArg Instr.incAbsolute (joinBytes_highByte_lowByte d16)⟩
theorem incAbsoluteX (d16 : Addr) : Statement (.incAbsoluteX d16) := ⟨rfl, _, rfl, congrArg Instr.incAbsoluteX (joinBytes_highByte_lowByte d16)⟩
theorem decZeroPage (d8 : Byte) : Statement (.decZeroPage d8) := ⟨rfl, _, rfl, rfl⟩
theorem decZeroPageX (d8 : Byte) : Statement (.decZeroPageX d8) := ⟨rfl, _, rfl, rfl⟩
theorem decAbsolute (d16 : Addr) : Statement (.decAbsolute d16) := ⟨rfl, _, rfl, congrArg Instr.decAbsolute (joinBytes_highByte_lowByte d16)⟩
theorem decAbsoluteX (d16 : Addr) : Statement (.decAbsoluteX d16) := ⟨rfl, _, rfl, congrArg Instr.decAbsoluteX (joinBytes_highByte_lowByte d16)⟩
theorem inx : Statement .inx := ⟨rfl, rfl⟩
theorem iny : Statement .iny := ⟨rfl, rfl⟩
theorem dex : Statement .dex := ⟨rfl, rfl⟩
theorem dey : Statement .dey := ⟨rfl, rfl⟩
theorem cmpImmediate (d8 : Byte) : Statement (.cmpImmediate d8) := ⟨rfl, _, rfl, rfl⟩
theorem cmpZeroPage (d8 : Byte) : Statement (.cmpZeroPage d8) := ⟨rfl, _, rfl, rfl⟩
theorem cmpZeroPageX (d8 : Byte) : Statement (.cmpZeroPageX d8) := ⟨rfl, _, rfl, rfl⟩
theorem cmpAbsolute (d16 : Addr) : Statement (.cmpAbsolute d16) := ⟨rfl, _, rfl, congrArg Instr.cmpAbsolute (joinBytes_highByte_lowByte d16)⟩
theorem cmpAbsoluteX (d16 : Addr) : Statement (.cmpAbsoluteX d16) := ⟨rfl, _, rfl, congrArg Instr.cmpAbsoluteX (joinBytes_highByte_lowByte d16)⟩
theorem cmpAbsoluteY (d16 : Addr) : Statement (.cmpAbsoluteY d16) := ⟨rfl, _, rfl, congrArg Instr.cmpAbsoluteY (joinBytes_highByte_lowByte d16)⟩
theorem cmpIndexedIndirect (d8 : Byte) : Statement (.cmpIndexedIndirect d8) := ⟨rfl, _, rfl, rfl⟩
theorem cmpIndirectIndexed (d8 : Byte) : Statement (.cmpIndirectIndexed d8) := ⟨rfl, _, rfl, rfl⟩
theorem cpxImmediate (d8 : Byte) : Statement (.cpxImmediate d8) := ⟨rfl, _, rfl, rfl⟩
theorem cpxZeroPage (d8 : Byte) : Statement (.cpxZeroPage d8) := ⟨rfl, _, rfl, rfl⟩
theorem cpxAbsolute (d16 : Addr) : Statement (.cpxAbsolute d16) := ⟨rfl, _, rfl, congrArg Instr.cpxAbsolute (joinBytes_highByte_lowByte d16)⟩
theorem cpyImmediate (d8 : Byte) : Statement (.cpyImmediate d8) := ⟨rfl, _, rfl, rfl⟩
theorem cpyZeroPage (d8 : Byte) : Statement (.cpyZeroPage d8) := ⟨rfl, _, rfl, rfl⟩
theorem cpyAbsolute (d16 : Addr) : Statement (.cpyAbsolute d16) := ⟨rfl, _, rfl, congrArg Instr.cpyAbsolute (joinBytes_highByte_lowByte d16)⟩
theorem bpl (d8 : Byte) : Statement (.bpl d8) := ⟨rfl, _, rfl, rfl⟩
theorem bmi (d8 : Byte) : Statement (.bmi d8) := ⟨rfl, _, rfl, rfl⟩
theorem bvc (d8 : Byte) : Statement (.bvc d8) := ⟨rfl, _, rfl, rfl⟩
theorem bvs (d8 : Byte) : Statement (.bvs d8) := ⟨rfl, _, rfl, rfl⟩
theorem bcc (d8 : Byte) : Statement (.bcc d8) := ⟨rfl, _, rfl, rfl⟩
theorem bcs (d8 : Byte) : Statement (.bcs d8) := ⟨rfl, _, rfl, rfl⟩
theorem bne (d8 : Byte) : Statement (.bne d8) := ⟨rfl, _, rfl, rfl⟩
theorem beq (d8 : Byte) : Statement (.beq d8) := ⟨rfl, _, rfl, rfl⟩
theorem jmpAbsolute (d16 : Addr) : Statement (.jmpAbsolute d16) := ⟨rfl, _, rfl, congrArg Instr.jmpAbsolute (joinBytes_highByte_lowByte d16)⟩
theorem jmpIndirect (d16 : Addr) : Statement (.jmpIndirect d16) := ⟨rfl, _, rfl, congrArg Instr.jmpIndirect (joinBytes_highByte_lowByte d16)⟩
theorem pha : Statement .pha := ⟨rfl, rfl⟩
theorem php : Statement .php := ⟨rfl, rfl⟩
theorem pla : Statement .pla := ⟨rfl, rfl⟩
theorem plp : Statement .plp := ⟨rfl, rfl⟩
theorem jsr (d16 : Addr) : Statement (.jsr d16) := ⟨rfl, _, rfl, congrArg Instr.jsr (joinBytes_highByte_lowByte d16)⟩
theorem rts : Statement .rts := ⟨rfl, rfl⟩
theorem rti : Statement .rti := ⟨rfl, rfl⟩
theorem clc : Statement .clc := ⟨rfl, rfl⟩
theorem sec : Statement .sec := ⟨rfl, rfl⟩
theorem cli : Statement .cli := ⟨rfl, rfl⟩
theorem sei : Statement .sei := ⟨rfl, rfl⟩
theorem cld : Statement .cld := ⟨rfl, rfl⟩
theorem sed : Statement .sed := ⟨rfl, rfl⟩
theorem clv : Statement .clv := ⟨rfl, rfl⟩
theorem brk : Statement .brk := ⟨rfl, rfl⟩
theorem nop : Statement .nop := ⟨rfl, rfl⟩

end Sys2Proof.Laws.Dispatched
end

