-- ==== Sys2Proof/Tests/Slice0.lean ====
section
/-! SUPPORT. The model's own tests: ill-formed terms refused, each opcode's word decoded, single steps from the vectors of
spec/95_test_vectors.md (a test's name carries its row), and a witness for each obligation that has hypotheses. -/

namespace Sys2Proof.Tests

open Sys2Proof.Machine

/-- A core about to run `bytes` at `pc` with the bytes `m` in its arrays (95_test_vectors.md 0: A, X, Y, P zero, S = FF). -/
def start (pc : Addr) (bytes : List Byte) (m : List (Nat × Byte)) : State where
  a := 0
  x := 0
  y := 0
  sp := 0xFF
  p := 0
  pc := pc
  ready := true
  fault := none
  mem := storeBytes bytes pc (m.foldl (fun m c => Memory.store m c.1 c.2) [])
  ramDraw := 7
  draws := 0

/-- Some fields of the state after one step. -/
def after {α : Type} (f : State → α) (s : State) : Option α :=
  match step s with
  | .next t => some (f t)
  | .fault _ | .refused _ => none

/-- Each word decodes to its instruction, with nothing left over. -/
def decodesTo (rows : List (List Byte × Instr)) : Bool :=
  rows.all fun r => decide (decode r.1 = .ok (r.2, []))

/-! ## Ill-formed pairs (30_encoding.md R86: "an empty cell means the combination does not exist") -/

theorem test_illFormed_staImmediate : (Form.mk .STA (.immediate 0x10)).wellFormed = false := by decide

theorem test_illFormed_ldxZeroPageX : (Form.mk .LDX (.memory (.zeroPageX 0x10))).wellFormed = false := by decide

theorem test_illFormed_jmpAbsoluteX : (Form.mk .JMP (.memory (.absoluteX 0x1234))).wellFormed = false := by decide

theorem test_illFormed_incAccumulator : (Form.mk .INC .accumulator).wellFormed = false := by decide

theorem test_illFormed_jsrIndirect : (Form.mk .JSR (.indirect 0x1234)).wellFormed = false := by decide

theorem test_illFormed_nopRelative : (Form.mk .NOP (.relative 0x10)).wellFormed = false := by decide

/-! ## Decoding: the opcodes of 30_encoding.md R86, an operand byte 86, an operand word 34 12 (low byte first, R83) -/

theorem test_decode_transfers :
    decodesTo
     [([0xAA], .tax),
      ([0xA8], .tay),
      ([0x8A], .txa),
      ([0x98], .tya),
      ([0xBA], .tsx),
      ([0x9A], .txs)] = true := by decide

theorem test_decode_loads :
    decodesTo
     [([0xA9, 0x86], .ldaImmediate 0x86),
      ([0xA5, 0x86], .ldaZeroPage 0x86),
      ([0xB5, 0x86], .ldaZeroPageX 0x86),
      ([0xAD, 0x34, 0x12], .ldaAbsolute 0x1234),
      ([0xBD, 0x34, 0x12], .ldaAbsoluteX 0x1234),
      ([0xB9, 0x34, 0x12], .ldaAbsoluteY 0x1234),
      ([0xA1, 0x86], .ldaIndexedIndirect 0x86),
      ([0xB1, 0x86], .ldaIndirectIndexed 0x86),
      ([0xA2, 0x86], .ldxImmediate 0x86),
      ([0xA6, 0x86], .ldxZeroPage 0x86),
      ([0xB6, 0x86], .ldxZeroPageY 0x86),
      ([0xAE, 0x34, 0x12], .ldxAbsolute 0x1234),
      ([0xBE, 0x34, 0x12], .ldxAbsoluteY 0x1234),
      ([0xA0, 0x86], .ldyImmediate 0x86),
      ([0xA4, 0x86], .ldyZeroPage 0x86),
      ([0xB4, 0x86], .ldyZeroPageX 0x86),
      ([0xAC, 0x34, 0x12], .ldyAbsolute 0x1234),
      ([0xBC, 0x34, 0x12], .ldyAbsoluteX 0x1234)] = true := by decide

theorem test_decode_stores :
    decodesTo
     [([0x85, 0x86], .staZeroPage 0x86),
      ([0x95, 0x86], .staZeroPageX 0x86),
      ([0x8D, 0x34, 0x12], .staAbsolute 0x1234),
      ([0x9D, 0x34, 0x12], .staAbsoluteX 0x1234),
      ([0x99, 0x34, 0x12], .staAbsoluteY 0x1234),
      ([0x81, 0x86], .staIndexedIndirect 0x86),
      ([0x91, 0x86], .staIndirectIndexed 0x86),
      ([0x86, 0x86], .stxZeroPage 0x86),
      ([0x96, 0x86], .stxZeroPageY 0x86),
      ([0x8E, 0x34, 0x12], .stxAbsolute 0x1234),
      ([0x84, 0x86], .styZeroPage 0x86),
      ([0x94, 0x86], .styZeroPageX 0x86),
      ([0x8C, 0x34, 0x12], .styAbsolute 0x1234)] = true := by decide

theorem test_decode_arithmetic :
    decodesTo
     [([0x69, 0x86], .adcImmediate 0x86),
      ([0x65, 0x86], .adcZeroPage 0x86),
      ([0x75, 0x86], .adcZeroPageX 0x86),
      ([0x6D, 0x34, 0x12], .adcAbsolute 0x1234),
      ([0x7D, 0x34, 0x12], .adcAbsoluteX 0x1234),
      ([0x79, 0x34, 0x12], .adcAbsoluteY 0x1234),
      ([0x61, 0x86], .adcIndexedIndirect 0x86),
      ([0x71, 0x86], .adcIndirectIndexed 0x86),
      ([0xE9, 0x86], .sbcImmediate 0x86),
      ([0xE5, 0x86], .sbcZeroPage 0x86),
      ([0xF5, 0x86], .sbcZeroPageX 0x86),
      ([0xED, 0x34, 0x12], .sbcAbsolute 0x1234),
      ([0xFD, 0x34, 0x12], .sbcAbsoluteX 0x1234),
      ([0xF9, 0x34, 0x12], .sbcAbsoluteY 0x1234),
      ([0xE1, 0x86], .sbcIndexedIndirect 0x86),
      ([0xF1, 0x86], .sbcIndirectIndexed 0x86)] = true := by decide

theorem test_decode_logical :
    decodesTo
     [([0x29, 0x86], .andImmediate 0x86),
      ([0x25, 0x86], .andZeroPage 0x86),
      ([0x35, 0x86], .andZeroPageX 0x86),
      ([0x2D, 0x34, 0x12], .andAbsolute 0x1234),
      ([0x3D, 0x34, 0x12], .andAbsoluteX 0x1234),
      ([0x39, 0x34, 0x12], .andAbsoluteY 0x1234),
      ([0x21, 0x86], .andIndexedIndirect 0x86),
      ([0x31, 0x86], .andIndirectIndexed 0x86),
      ([0x09, 0x86], .oraImmediate 0x86),
      ([0x05, 0x86], .oraZeroPage 0x86),
      ([0x15, 0x86], .oraZeroPageX 0x86),
      ([0x0D, 0x34, 0x12], .oraAbsolute 0x1234),
      ([0x1D, 0x34, 0x12], .oraAbsoluteX 0x1234),
      ([0x19, 0x34, 0x12], .oraAbsoluteY 0x1234),
      ([0x01, 0x86], .oraIndexedIndirect 0x86),
      ([0x11, 0x86], .oraIndirectIndexed 0x86),
      ([0x49, 0x86], .eorImmediate 0x86),
      ([0x45, 0x86], .eorZeroPage 0x86),
      ([0x55, 0x86], .eorZeroPageX 0x86),
      ([0x4D, 0x34, 0x12], .eorAbsolute 0x1234),
      ([0x5D, 0x34, 0x12], .eorAbsoluteX 0x1234),
      ([0x59, 0x34, 0x12], .eorAbsoluteY 0x1234),
      ([0x41, 0x86], .eorIndexedIndirect 0x86),
      ([0x51, 0x86], .eorIndirectIndexed 0x86),
      ([0x24, 0x86], .bitZeroPage 0x86),
      ([0x2C, 0x34, 0x12], .bitAbsolute 0x1234)] = true := by decide

theorem test_decode_shifts :
    decodesTo
     [([0x0A], .aslAccumulator),
      ([0x06, 0x86], .aslZeroPage 0x86),
      ([0x16, 0x86], .aslZeroPageX 0x86),
      ([0x0E, 0x34, 0x12], .aslAbsolute 0x1234),
      ([0x1E, 0x34, 0x12], .aslAbsoluteX 0x1234),
      ([0x4A], .lsrAccumulator),
      ([0x46, 0x86], .lsrZeroPage 0x86),
      ([0x56, 0x86], .lsrZeroPageX 0x86),
      ([0x4E, 0x34, 0x12], .lsrAbsolute 0x1234),
      ([0x5E, 0x34, 0x12], .lsrAbsoluteX 0x1234),
      ([0x2A], .rolAccumulator),
      ([0x26, 0x86], .rolZeroPage 0x86),
      ([0x36, 0x86], .rolZeroPageX 0x86),
      ([0x2E, 0x34, 0x12], .rolAbsolute 0x1234),
      ([0x3E, 0x34, 0x12], .rolAbsoluteX 0x1234),
      ([0x6A], .rorAccumulator),
      ([0x66, 0x86], .rorZeroPage 0x86),
      ([0x76, 0x86], .rorZeroPageX 0x86),
      ([0x6E, 0x34, 0x12], .rorAbsolute 0x1234),
      ([0x7E, 0x34, 0x12], .rorAbsoluteX 0x1234)] = true := by decide

theorem test_decode_incdec :
    decodesTo
     [([0xE6, 0x86], .incZeroPage 0x86),
      ([0xF6, 0x86], .incZeroPageX 0x86),
      ([0xEE, 0x34, 0x12], .incAbsolute 0x1234),
      ([0xFE, 0x34, 0x12], .incAbsoluteX 0x1234),
      ([0xC6, 0x86], .decZeroPage 0x86),
      ([0xD6, 0x86], .decZeroPageX 0x86),
      ([0xCE, 0x34, 0x12], .decAbsolute 0x1234),
      ([0xDE, 0x34, 0x12], .decAbsoluteX 0x1234),
      ([0xE8], .inx),
      ([0xC8], .iny),
      ([0xCA], .dex),
      ([0x88], .dey)] = true := by decide

theorem test_decode_compares :
    decodesTo
     [([0xC9, 0x86], .cmpImmediate 0x86),
      ([0xC5, 0x86], .cmpZeroPage 0x86),
      ([0xD5, 0x86], .cmpZeroPageX 0x86),
      ([0xCD, 0x34, 0x12], .cmpAbsolute 0x1234),
      ([0xDD, 0x34, 0x12], .cmpAbsoluteX 0x1234),
      ([0xD9, 0x34, 0x12], .cmpAbsoluteY 0x1234),
      ([0xC1, 0x86], .cmpIndexedIndirect 0x86),
      ([0xD1, 0x86], .cmpIndirectIndexed 0x86),
      ([0xE0, 0x86], .cpxImmediate 0x86),
      ([0xE4, 0x86], .cpxZeroPage 0x86),
      ([0xEC, 0x34, 0x12], .cpxAbsolute 0x1234),
      ([0xC0, 0x86], .cpyImmediate 0x86),
      ([0xC4, 0x86], .cpyZeroPage 0x86),
      ([0xCC, 0x34, 0x12], .cpyAbsolute 0x1234)] = true := by decide

theorem test_decode_branches :
    decodesTo
     [([0x10, 0x86], .bpl 0x86),
      ([0x30, 0x86], .bmi 0x86),
      ([0x50, 0x86], .bvc 0x86),
      ([0x70, 0x86], .bvs 0x86),
      ([0x90, 0x86], .bcc 0x86),
      ([0xB0, 0x86], .bcs 0x86),
      ([0xD0, 0x86], .bne 0x86),
      ([0xF0, 0x86], .beq 0x86),
      ([0x4C, 0x34, 0x12], .jmpAbsolute 0x1234),
      ([0x6C, 0x34, 0x12], .jmpIndirect 0x1234)] = true := by decide

theorem test_decode_stack :
    decodesTo
     [([0x48], .pha),
      ([0x08], .php),
      ([0x68], .pla),
      ([0x28], .plp),
      ([0x20, 0x34, 0x12], .jsr 0x1234),
      ([0x60], .rts),
      ([0x40], .rti)] = true := by decide

theorem test_decode_flags :
    decodesTo
     [([0x18], .clc),
      ([0x38], .sec),
      ([0x58], .cli),
      ([0x78], .sei),
      ([0xD8], .cld),
      ([0xF8], .sed),
      ([0xB8], .clv),
      ([0x00], .brk),
      ([0xEA], .nop)] = true := by decide

/-- Row 3.4 of 95_test_vectors.md: invalid opcodes, and what the bytes lack. -/
theorem test_decode_refuses :
    ([0x02, 0x04, 0x1A, 0x7C, 0x80, 0x89, 0x9C, 0x9E, 0xEB, 0xFF].all fun op =>
        decide (decode [op, 0, 0] = .error (.invalidOpcode op))) = true ∧
      decode [] = .error .noBytes ∧ decode [0xAD, 0x34] = .error (.truncated 0xAD) := by decide

/-- The table's numbering of bits: the first byte in bits 7..0. -/
theorem test_decodeTableWord :
    decodeTableWord 24 0x1234AD = some (.ldaAbsolute 0x1234) ∧ decodeTableWord 8 0xAD = some (.ldaAbsolute 0) ∧
      decodeTableWord 16 0x86A9 = some (.ldaImmediate 0x86) ∧ decodeTableWord 8 0x02 = none := by decide

/-- A placed word is the first instruction after reset (PC is 0x0000 there: notes/assumptions/5.md). -/
theorem test_withFetchWord :
    after (fun t => (t.a, t.pc)) (State.reset.withFetchWord 16 0x86A9) = some (0x86, 0x0002) ∧
      after (fun t => t.pc) (State.reset.withFetchWord 24 0x12344C) = some 0x1234 := by decide

/-! ## Single steps (95_test_vectors.md part 2; the row's number stands in the name) -/

theorem test_A1_ldaZeroPageX :
    after (fun t => (t.a, t.p, t.pc)) { start 0x8000 [0xB5, 0xF0] [(0x0010, 0x77)] with x := 0x20 } =
      some (0x77, 0x00, 0x8002) := by decide

theorem test_A2_ldaAbsoluteX :
    after (fun t => (t.a, t.p, t.pc)) { start 0x8000 [0xBD, 0xFF, 0xFF] [(0x0000, 0x5A)] with x := 0x01 } =
      some (0x5A, 0x00, 0x8003) := by decide

theorem test_A3_ldaIndexedIndirect :
    after (fun t => (t.a, t.p, t.pc)) { start 0x8000 [0xA1, 0xFF] [(0x00FF, 0x34), (0x0100, 0x12), (0x0000, 0x02), (0x1234, 0x99), (0x0234, 0x11)] with x := 0x00 } =
      some (0x99, 0x80, 0x8002) := by decide

theorem test_A5_ldaIndirectIndexed :
    after (fun t => (t.a, t.p, t.pc)) { start 0x8000 [0xB1, 0xF0] [(0x00F0, 0xF0), (0x00F1, 0xFF), (0x0010, 0x66)] with y := 0x20 } =
      some (0x66, 0x00, 0x8002) := by decide

theorem test_A6_ldxZeroPageY :
    after (fun t => (t.x, t.p, t.pc)) { start 0x8000 [0xB6, 0xFF] [(0x0001, 0x80)] with y := 0x02 } =
      some (0x80, 0x80, 0x8002) := by decide

theorem test_A7_jmpIndirect :
    after (fun t => (t.p, t.pc)) (start 0x8000 [0x6C, 0xFF, 0x02] [(0x02FF, 0x00), (0x0300, 0x90), (0x0200, 0x80)]) =
      some (0x00, 0x9000) := by decide

theorem test_A9_ldaImmediate :
    after (fun t => (t.a, t.p, t.pc)) (start 0xFFFF [0xA9] [(0x0000, 0x42)]) =
      some (0x42, 0x00, 0x0001) := by decide

theorem test_A11_staIndirectIndexed :
    after (fun t => (t.byteAt 0x1038, t.p, t.pc)) { start 0x8000 [0x91, 0x86] [(0x0086, 0x28), (0x0087, 0x10)] with a := 0x5A, y := 0x10 } =
      some (0x5A, 0x00, 0x8002) := by decide

theorem test_A17_ldaIndexedIndirect :
    after (fun t => (t.a, t.p, t.pc)) { start 0x8000 [0xA1, 0x80] [(0x007F, 0x00), (0x0080, 0x03), (0x0300, 0x09)] with x := 0xFF } =
      some (0x09, 0x00, 0x8002) := by decide

theorem test_T1_tax :
    after (fun t => (t.x, t.p, t.pc)) { start 0x8000 [0xAA] [] with a := 0x80, x := 0x01 } =
      some (0x80, 0x80, 0x8001) := by decide

theorem test_T2_tay :
    after (fun t => (t.y, t.p, t.pc)) { start 0x8000 [0xA8] [] with a := 0x00, y := 0x55, p := 0x80 } =
      some (0x00, 0x02, 0x8001) := by decide

theorem test_T3_txa :
    after (fun t => (t.a, t.p, t.pc)) { start 0x8000 [0x8A] [] with x := 0x7F, a := 0xFF, p := 0x82 } =
      some (0x7F, 0x00, 0x8001) := by decide

theorem test_T4_tya :
    after (fun t => (t.a, t.p, t.pc)) { start 0x8000 [0x98] [] with y := 0xFF } =
      some (0xFF, 0x80, 0x8001) := by decide

theorem test_T5_tsx :
    after (fun t => (t.x, t.p, t.pc)) { start 0x8000 [0xBA] [] with sp := 0x00, x := 0x33 } =
      some (0x00, 0x02, 0x8001) := by decide

theorem test_T6_txs :
    after (fun t => (t.sp, t.p, t.pc)) { start 0x8000 [0x9A] [] with x := 0x80, sp := 0x10 } =
      some (0x80, 0x00, 0x8001) := by decide

theorem test_T8_txs :
    after (fun t => (t.sp, t.p, t.pc)) { start 0x8000 [0x9A] [] with x := 0x00, sp := 0x10, p := 0x80 } =
      some (0x00, 0x80, 0x8001) := by decide

theorem test_L1_ldaImmediate :
    after (fun t => (t.a, t.p, t.pc)) { start 0x8000 [0xA9, 0x00] [] with a := 0x55, p := 0x81 } =
      some (0x00, 0x03, 0x8002) := by decide

theorem test_L3_ldyAbsoluteX :
    after (fun t => (t.y, t.p, t.pc)) { start 0x8000 [0xBC, 0x34, 0x12] [(0x1236, 0x01)] with x := 0x02, p := 0x82 } =
      some (0x01, 0x00, 0x8003) := by decide

theorem test_L6_staAbsolute :
    after (fun t => (t.byteAt 0x6001, t.p, t.pc)) { start 0x8000 [0x8D, 0x01, 0x60] [] with a := 0xAA, p := 0x02 } =
      some (0xAA, 0x02, 0x8003) := by decide

theorem test_L7_stxZeroPageY :
    after (fun t => (t.byteAt 0x0008, t.p, t.pc)) { start 0x8000 [0x96, 0x10] [] with x := 0x12, y := 0xF8 } =
      some (0x12, 0x00, 0x8002) := by decide

theorem test_L8_styAbsolute :
    after (fun t => (t.byteAt 0x8000, t.p, t.pc)) { start 0x8000 [0x8C, 0x00, 0x80] [] with y := 0x34 } =
      some (0x8C, 0x00, 0x8003) := by decide

theorem test_L9_staAbsolute :
    after (fun t => (t.p, t.pc)) { start 0x8000 [0x8D, 0x00, 0x20] [] with a := 0x01 } =
      some (0x00, 0x8003) := by decide

theorem test_L10_staAbsoluteX :
    after (fun t => (t.p, t.pc)) { start 0x8000 [0x9D, 0xFF, 0x1F] [] with a := 0x01, x := 0x01 } =
      some (0x00, 0x8003) := by decide

theorem test_L13_ldaAbsolute :
    after (fun t => (t.a, t.p, t.pc)) { start 0x8000 [0xAD, 0xFF, 0x5F] [] with a := 0x08 } =
      some (0x00, 0x02, 0x8003) := by decide

theorem test_L14_ldaAbsolute :
    after (fun t => (t.a, t.p, t.pc)) { start 0x8000 [0xAD, 0x01, 0x20] [] with a := 0x08 } =
      some (0x00, 0x02, 0x8003) := by decide

theorem test_L16_ldaAbsoluteY :
    after (fun t => (t.a, t.p, t.pc)) { start 0x8000 [0xB9, 0x01, 0xFF] [(0x0000, 0x44)] with y := 0xFF } =
      some (0x44, 0x00, 0x8003) := by decide

theorem test_AR2_adcImmediate :
    after (fun t => (t.a, t.p, t.pc)) { start 0x8000 [0x69, 0x01] [] with a := 0xFF } =
      some (0x00, 0x03, 0x8002) := by decide

theorem test_AR10_adcImmediate :
    after (fun t => (t.a, t.p, t.pc)) { start 0x8000 [0x69, 0x01] [] with a := 0x09, p := 0x08 } =
      some (0x0A, 0x08, 0x8002) := by decide

theorem test_AR20_adcZeroPage :
    after (fun t => (t.a, t.p, t.pc)) { start 0x8000 [0x65, 0x10] [(0x0010, 0x20)] with a := 0x10, p := 0x01 } =
      some (0x31, 0x00, 0x8002) := by decide

theorem test_AR12_sbcImmediate :
    after (fun t => (t.a, t.p, t.pc)) { start 0x8000 [0xE9, 0x01] [] with a := 0x05 } =
      some (0x03, 0x01, 0x8002) := by decide

theorem test_AR16_sbcImmediate :
    after (fun t => (t.p, t.pc)) { start 0x8000 [0xE9, 0xFF] [] with a := 0x00 } =
      some (0x02, 0x8002) := by decide

theorem test_LG1_andImmediate :
    after (fun t => (t.a, t.p, t.pc)) { start 0x8000 [0x29, 0x0F] [] with a := 0xF0, p := 0x01 } =
      some (0x00, 0x03, 0x8002) := by decide

theorem test_LG2_andImmediate :
    after (fun t => (t.a, t.p, t.pc)) { start 0x8000 [0x29, 0x80] [] with a := 0xFF } =
      some (0x80, 0x80, 0x8002) := by decide

theorem test_LG3_oraImmediate :
    after (fun t => (t.p, t.pc)) { start 0x8000 [0x09, 0x00] [] with a := 0x00, p := 0x80 } =
      some (0x02, 0x8002) := by decide

theorem test_LG4_oraZeroPage :
    after (fun t => (t.a, t.p, t.pc)) { start 0x8000 [0x05, 0x10] [(0x0010, 0x80)] with a := 0x01 } =
      some (0x81, 0x80, 0x8002) := by decide

theorem test_LG5_eorImmediate :
    after (fun t => (t.a, t.p, t.pc)) { start 0x8000 [0x49, 0xFF] [] with a := 0xFF } =
      some (0x00, 0x02, 0x8002) := by decide

theorem test_LG6_eorImmediate :
    after (fun t => (t.a, t.p, t.pc)) { start 0x8000 [0x49, 0xFF] [] with a := 0x0F } =
      some (0xF0, 0x80, 0x8002) := by decide

theorem test_LG7_bitZeroPage :
    after (fun t => (t.a, t.p, t.pc)) { start 0x8000 [0x24, 0x10] [(0x0010, 0xC0)] with a := 0x01 } =
      some (0x01, 0xC2, 0x8002) := by decide

theorem test_LG8_bitZeroPage :
    after (fun t => (t.a, t.p, t.pc)) { start 0x8000 [0x24, 0x10] [(0x0010, 0x3F)] with a := 0x01, p := 0xC2 } =
      some (0x01, 0x00, 0x8002) := by decide

theorem test_S1_aslAccumulator :
    after (fun t => (t.a, t.p, t.pc)) { start 0x8000 [0x0A] [] with a := 0x81 } =
      some (0x02, 0x01, 0x8001) := by decide

theorem test_S2_aslAccumulator :
    after (fun t => (t.a, t.p, t.pc)) { start 0x8000 [0x0A] [] with a := 0x40, p := 0x01 } =
      some (0x80, 0x80, 0x8001) := by decide

theorem test_S4_lsrAccumulator :
    after (fun t => (t.a, t.p, t.pc)) { start 0x8000 [0x4A] [] with a := 0x01, p := 0x80 } =
      some (0x00, 0x03, 0x8001) := by decide

theorem test_S5_lsrAccumulator :
    after (fun t => (t.a, t.p, t.pc)) { start 0x8000 [0x4A] [] with a := 0xFE, p := 0x01 } =
      some (0x7F, 0x00, 0x8001) := by decide

theorem test_S6_rolAccumulator :
    after (fun t => (t.a, t.p, t.pc)) { start 0x8000 [0x2A] [] with a := 0x80, p := 0x01 } =
      some (0x01, 0x01, 0x8001) := by decide

theorem test_S7_rolAccumulator :
    after (fun t => (t.a, t.p, t.pc)) { start 0x8000 [0x2A] [] with a := 0x80 } =
      some (0x00, 0x03, 0x8001) := by decide

theorem test_S8_rorAccumulator :
    after (fun t => (t.a, t.p, t.pc)) { start 0x8000 [0x6A] [] with a := 0x01, p := 0x01 } =
      some (0x80, 0x81, 0x8001) := by decide

theorem test_S9_rorAccumulator :
    after (fun t => (t.a, t.p, t.pc)) { start 0x8000 [0x6A] [] with a := 0x01 } =
      some (0x00, 0x03, 0x8001) := by decide

theorem test_S10_aslZeroPage :
    after (fun t => (t.a, t.byteAt 0x0010, t.p, t.pc)) { start 0x8000 [0x06, 0x10] [(0x0010, 0xC0)] with a := 0x11 } =
      some (0x11, 0x80, 0x81, 0x8002) := by decide

theorem test_S11_rorAbsoluteX :
    after (fun t => (t.byteAt 0x1235, t.p, t.pc)) { start 0x8000 [0x7E, 0x34, 0x12] [(0x1235, 0x02)] with x := 0x01, p := 0x01 } =
      some (0x81, 0x80, 0x8003) := by decide

theorem test_S12_lsrAbsolute :
    after (fun t => (t.byteAt 0x8000, t.p, t.pc)) (start 0x8000 [0x4E, 0x00, 0x80] []) =
      some (0x4E, 0x00, 0x8003) := by decide

theorem test_S13_rolAbsolute :
    after (fun t => (t.byteAt 0x4000, t.p, t.pc)) { start 0x8000 [0x2E, 0x00, 0x40] [] with p := 0x01 } =
      some (0x00, 0x00, 0x8003) := by decide

theorem test_I1_inx :
    after (fun t => (t.x, t.p, t.pc)) { start 0x8000 [0xE8] [] with x := 0xFF } =
      some (0x00, 0x02, 0x8001) := by decide

theorem test_I2_iny :
    after (fun t => (t.y, t.p, t.pc)) { start 0x8000 [0xC8] [] with y := 0x7F } =
      some (0x80, 0x80, 0x8001) := by decide

theorem test_I3_dex :
    after (fun t => (t.x, t.p, t.pc)) { start 0x8000 [0xCA] [] with x := 0x00 } =
      some (0xFF, 0x80, 0x8001) := by decide

theorem test_I4_dey :
    after (fun t => (t.y, t.p, t.pc)) { start 0x8000 [0x88] [] with y := 0x01, p := 0x80 } =
      some (0x00, 0x02, 0x8001) := by decide

theorem test_I5_incZeroPage :
    after (fun t => (t.byteAt 0x0010, t.p, t.pc)) { start 0x8000 [0xE6, 0x10] [(0x0010, 0xFF)] with p := 0x01 } =
      some (0x00, 0x03, 0x8002) := by decide

theorem test_I6_decZeroPageX :
    after (fun t => (t.byteAt 0x0005, t.p, t.pc)) { start 0x8000 [0xD6, 0x10] [(0x0005, 0x00)] with x := 0xF5 } =
      some (0xFF, 0x80, 0x8002) := by decide

theorem test_I8_decAbsoluteX :
    after (fun t => (t.byteAt 0x6002, t.p, t.pc)) { start 0x8000 [0xDE, 0x00, 0x60] [(0x6002, 0x01)] with x := 0x02 } =
      some (0x00, 0x02, 0x8003) := by decide

theorem test_I9_incAbsolute :
    after (fun t => (t.byteAt 0x8000, t.p, t.pc)) (start 0x8000 [0xEE, 0x00, 0x80] []) =
      some (0xEE, 0x80, 0x8003) := by decide

theorem test_CP1_cmpImmediate :
    after (fun t => (t.a, t.p, t.pc)) { start 0x8000 [0xC9, 0x10] [] with a := 0x10 } =
      some (0x10, 0x03, 0x8002) := by decide

theorem test_CP4_cmpImmediate :
    after (fun t => (t.a, t.p, t.pc)) { start 0x8000 [0xC9, 0x01] [] with a := 0x80, p := 0x40 } =
      some (0x80, 0x41, 0x8002) := by decide

theorem test_CP7_cpxZeroPage :
    after (fun t => (t.x, t.p, t.pc)) { start 0x8000 [0xE4, 0x10] [(0x0010, 0x41)] with x := 0x40 } =
      some (0x40, 0x80, 0x8002) := by decide

theorem test_CP8_cpyImmediate :
    after (fun t => (t.y, t.p, t.pc)) { start 0x8000 [0xC0, 0x00] [] with y := 0x00 } =
      some (0x00, 0x03, 0x8002) := by decide

theorem test_CP9_cpyAbsolute :
    after (fun t => (t.y, t.p, t.pc)) { start 0x8000 [0xCC, 0x34, 0x12] [(0x1234, 0x10)] with y := 0x90 } =
      some (0x90, 0x81, 0x8003) := by decide

theorem test_B1_bne :
    after (fun t => (t.p, t.pc)) (start 0x8000 [0xD0, 0x10] []) =
      some (0x00, 0x8012) := by decide

theorem test_B14_bne :
    after (fun t => (t.p, t.pc)) (start 0x0000 [0xD0, 0xFB] []) =
      some (0x00, 0xFFFD) := by decide

theorem test_B3_beq :
    after (fun t => (t.p, t.pc)) { start 0x8000 [0xF0, 0xFE] [] with p := 0x02 } =
      some (0x02, 0x8000) := by decide

theorem test_B4_beq :
    after (fun t => (t.p, t.pc)) (start 0x8000 [0xF0, 0xFE] []) =
      some (0x00, 0x8002) := by decide

theorem test_B5_bpl :
    after (fun t => (t.p, t.pc)) (start 0x8000 [0x10, 0x7F] []) =
      some (0x00, 0x8081) := by decide

theorem test_B15_bpl :
    after (fun t => (t.p, t.pc)) (start 0x8000 [0x10, 0x00] []) =
      some (0x00, 0x8002) := by decide

theorem test_B6_bmi :
    after (fun t => (t.p, t.pc)) { start 0x8000 [0x30, 0x80] [] with p := 0x80 } =
      some (0x80, 0x7F82) := by decide

theorem test_B7_bmi :
    after (fun t => (t.p, t.pc)) { start 0x8000 [0x30, 0x80] [] with p := 0x7F } =
      some (0x7F, 0x8002) := by decide

theorem test_B8_bcc :
    after (fun t => (t.p, t.pc)) { start 0x8000 [0x90, 0x04] [] with p := 0xFE } =
      some (0xFE, 0x8006) := by decide

theorem test_B9_bcs :
    after (fun t => (t.p, t.pc)) { start 0x8000 [0xB0, 0x04] [] with p := 0x01 } =
      some (0x01, 0x8006) := by decide

theorem test_B10_bvc :
    after (fun t => (t.p, t.pc)) { start 0x8000 [0x50, 0x04] [] with p := 0xBF } =
      some (0xBF, 0x8006) := by decide

theorem test_B11_bvs :
    after (fun t => (t.p, t.pc)) { start 0x8000 [0x70, 0x04] [] with p := 0x40 } =
      some (0x40, 0x8006) := by decide

theorem test_B12_bvs :
    after (fun t => (t.p, t.pc)) { start 0x8000 [0x70, 0x04] [] with p := 0xBF } =
      some (0xBF, 0x8002) := by decide

theorem test_J1_jmpAbsolute :
    after (fun t => (t.p, t.pc)) { start 0x8000 [0x4C, 0x00, 0x90] [] with p := 0xC3 } =
      some (0xC3, 0x9000) := by decide

theorem test_J4_jmpIndirect :
    after (fun t => (t.p, t.pc)) (start 0x8000 [0x6C, 0xFF, 0xFF] [(0xFFFF, 0x11), (0x0000, 0x22), (0xFF00, 0x33)]) =
      some (0x00, 0x2211) := by decide

theorem test_K1_pha :
    after (fun t => (t.sp, t.byteAt 0x01FF, t.p, t.pc)) { start 0x8000 [0x48] [] with a := 0x42, sp := 0xFF } =
      some (0xFE, 0x42, 0x00, 0x8001) := by decide

theorem test_K2_pha :
    after (fun t => (t.sp, t.byteAt 0x0100, t.p, t.pc)) { start 0x8000 [0x48] [] with a := 0x42, sp := 0x00 } =
      some (0xFF, 0x42, 0x00, 0x8001) := by decide

theorem test_K3_php :
    after (fun t => (t.sp, t.byteAt 0x01FF, t.p, t.pc)) { start 0x8000 [0x08] [] with sp := 0xFF, p := 0x81 } =
      some (0xFE, 0xB1, 0x81, 0x8001) := by decide

theorem test_K4_php :
    after (fun t => (t.sp, t.byteAt 0x0180, t.p, t.pc)) { start 0x8000 [0x08] [] with sp := 0x80 } =
      some (0x7F, 0x30, 0x00, 0x8001) := by decide

theorem test_K5_pla :
    after (fun t => (t.a, t.sp, t.p, t.pc)) { start 0x8000 [0x68] [(0x01FF, 0x00)] with a := 0x55, sp := 0xFE, p := 0x80 } =
      some (0x00, 0xFF, 0x02, 0x8001) := by decide

theorem test_K6_pla :
    after (fun t => (t.a, t.sp, t.p, t.pc)) { start 0x8000 [0x68] [(0x0100, 0x80)] with sp := 0xFF } =
      some (0x80, 0x00, 0x80, 0x8001) := by decide

theorem test_K7_plp :
    after (fun t => (t.sp, t.p, t.pc)) { start 0x8000 [0x28] [(0x01FF, 0xC3)] with sp := 0xFE } =
      some (0xFF, 0xC3, 0x8001) := by decide

theorem test_K8_plp :
    after (fun t => (t.sp, t.p, t.pc)) { start 0x8000 [0x28] [(0x01FF, 0x00)] with sp := 0xFE, p := 0xFF } =
      some (0xFF, 0x00, 0x8001) := by decide

theorem test_K10_jsr :
    after (fun t => (t.sp, t.byteAt 0x0100, t.byteAt 0x01FF, t.p, t.pc)) { start 0x8000 [0x20, 0x00, 0x90] [] with sp := 0x00 } =
      some (0xFE, 0x80, 0x02, 0x00, 0x9000) := by decide

theorem test_K11_jsr :
    after (fun t => (t.sp, t.byteAt 0x01FF, t.byteAt 0x01FE, t.p, t.pc)) { start 0xFFFD [0x20, 0x34, 0x12] [] with sp := 0xFF } =
      some (0xFD, 0xFF, 0xFF, 0x00, 0x1234) := by decide

theorem test_K12_rts :
    after (fun t => (t.sp, t.p, t.pc)) { start 0x8000 [0x60] [(0x01FE, 0x02), (0x01FF, 0x80)] with sp := 0xFD } =
      some (0xFF, 0x00, 0x8003) := by decide

theorem test_K13_rts :
    after (fun t => (t.sp, t.p, t.pc)) { start 0x8000 [0x60] [(0x01FE, 0xFF), (0x01FF, 0xFF)] with sp := 0xFD } =
      some (0xFF, 0x00, 0x0000) := by decide

theorem test_K14_rti :
    after (fun t => (t.sp, t.p, t.pc)) { start 0x8000 [0x40] [(0x01FD, 0x23), (0x01FE, 0x45), (0x01FF, 0x81)] with sp := 0xFC } =
      some (0xFF, 0x23, 0x8145) := by decide

theorem test_K15_rti :
    after (fun t => (t.sp, t.p, t.pc)) { start 0x8000 [0x40] [(0x01FF, 0xFF), (0x0100, 0x00), (0x0101, 0x90)] with sp := 0xFE } =
      some (0x01, 0xFF, 0x9000) := by decide

theorem test_F1_clc :
    after (fun t => (t.p, t.pc)) { start 0x8000 [0x18] [] with p := 0xFF } =
      some (0xFE, 0x8001) := by decide

theorem test_F2_sec :
    after (fun t => (t.p, t.pc)) (start 0x8000 [0x38] []) =
      some (0x01, 0x8001) := by decide

theorem test_F3_cli :
    after (fun t => (t.p, t.pc)) { start 0x8000 [0x58] [] with p := 0xFF } =
      some (0xFB, 0x8001) := by decide

theorem test_F4_sei :
    after (fun t => (t.p, t.pc)) (start 0x8000 [0x78] []) =
      some (0x04, 0x8001) := by decide

theorem test_F5_cld :
    after (fun t => (t.p, t.pc)) { start 0x8000 [0xD8] [] with p := 0xFF } =
      some (0xF7, 0x8001) := by decide

theorem test_F6_sed :
    after (fun t => (t.p, t.pc)) (start 0x8000 [0xF8] []) =
      some (0x08, 0x8001) := by decide

theorem test_F7_clv :
    after (fun t => (t.p, t.pc)) { start 0x8000 [0xB8] [] with p := 0xFF } =
      some (0xBF, 0x8001) := by decide

theorem test_F9_nop :
    after (fun t => (t.p, t.pc)) { start 0x8000 [0xEA] [] with a := 0x12, x := 0x34, y := 0x56, sp := 0x78, p := 0xA5 } =
      some (0xA5, 0x8001) := by decide

theorem test_F10_brk :
    after (fun t => (t.p, t.pc, t.ready)) { start 0x8010 [0x00] [] with sp := 0xFD, p := 0x24 } =
      some (0x24, 0x8011, false) := by decide

theorem test_F13_brk :
    after (fun t => (t.p, t.pc, t.ready)) (start 0xFFFF [0x00] []) =
      some (0x00, 0x0000, false) := by decide

theorem test_X1_invalid :
    after (fun t => (t.a, t.x, t.y, t.sp, t.p, t.pc)) { start 0x8000 [0x02] [] with a := 0x11, x := 0x22, y := 0x33, sp := 0x44, p := 0x55 } =
      some (0x11, 0x22, 0x33, 0x44, 0x55, 0x8000) := by decide

theorem test_X5_invalid :
    after (fun t => (t.p, t.pc, t.ready, t.fault)) (start 0x0200 [0xEB] []) =
      some (0x00, 0x0200, false, some ⟨0xEB, 0x0200⟩) := by decide

/-- Row A12: the read of 0x2000 answers the next draw and takes it. -/
theorem test_A12_ldaAbsolute_draw :
    after (fun t => (t.a, t.draws, t.pc)) (start 0x8000 [0xAD, 0x00, 0x20] []) = some (Config.randByte 0, 1, 0x8003) := rfl

/-- Rows X6 and X7: an opcode fetched from 0x2000 is a draw. -/
theorem test_X6_fetch_draws :
    (fetch8 (start 0x2000 [] [])).1 = Config.randByte 0 ∧ (fetch8 (start 0x2000 [] [])).2.draws = 1 := ⟨rfl, rfl⟩

/-- Row X4: a faulted core stays where it is. -/
theorem test_X4_step_after_fault :
    after (fun t => (step t).casesOn (fun u => decide (u = t)) (fun _ => false) (fun _ => false)) (start 0x8000 [0x02] []) =
      some true := by decide

/-! ## The other value of each parameter (rows A4, A15, A8, J5, T7, AR3, AR9, AR18) and the overflow table 3.3 -/

theorem test_A4_zeroPagePointer_wraps :
    (effectiveAddressWith true (.indexedIndirect 0xFF)
      (start 0x8000 [] [(0x00FF, 0x34), (0x0100, 0x12), (0x0000, 0x02)])).1 = 0x0234 := by decide

theorem test_A15_zeroPagePointer_wraps :
    (effectiveAddressWith true (.indirectIndexed 0xFF)
      { start 0x8000 [] [(0x00FF, 0x00), (0x0100, 0x03), (0x0000, 0x04)] with y := 0x01 }).1 = 0x0401 := by decide

theorem test_A8_jmpIndirect_wraps :
    (indirectTargetWith true 0x02FF (start 0x8000 [] [(0x02FF, 0x00), (0x0300, 0x90), (0x0200, 0x80)])).1 = 0x8000 := by
  decide

/-- The pointer 0x5FFF by R110's operation: 0x00 from the unmapped 0x5FFF, the high byte from SaveRAM[0] (log entry 18). -/
theorem test_jmpIndirect_pointer_5FFF :
    (indirectTarget 0x5FFF (start 0x8000 [] [(0x6000, 0x12)])).1 = 0x1200 := by decide

/-- R110's pseudocode at 0xFFFF, and the spec's own vector (log entry 18). -/
theorem test_J5_jmpIndirect_wraps :
    (indirectTargetWith true 0xFFFF (start 0x8000 [] [(0xFFFF, 0x11), (0x0000, 0x22), (0xFF00, 0x33)])).1 = 0x3311 := by
  decide

theorem test_T7_txs_updates :
    let t := transferXToS true { start 0x8000 [] [] with x := 0x80, sp := 0x10 }
    (t.sp, t.p) = (0x80, 0x80) := by decide

theorem test_AR3_adc_writesV :
    let t := addWithCarry true (.immediate 0x50) { start 0x8000 [] [] with a := 0x50 }
    (t.a, t.p) = (0xA0, 0xC0) := by decide

theorem test_AR9_adc_clearsV :
    let t := addWithCarry true (.immediate 0x01) { start 0x8000 [] [] with a := 0x01, p := 0x40 }
    (t.a, t.p) = (0x02, 0x00) := by decide

theorem test_AR18_sbc_writesV :
    let t := subtractWithCarry true (.immediate 0x01) { start 0x8000 [] [] with a := 0x80, p := 0x01 }
    (t.a, t.p) = (0x7F, 0x41) := by decide

/-- Table 3.3, add: a, M, C in, result, C out, V. -/
def addRow (a m : Byte) (c : Bool) (r : Byte) (c' v : Bool) : Bool :=
  adcResult a m c == r && decide (adcSum a m c > 255) == c' && overflowAdd a m r == v

/-- Table 3.3, subtract. -/
def subtractRow (a m : Byte) (c : Bool) (r : Byte) (c' v : Bool) : Bool :=
  sbcResult a m c == r && decide (sbcDiff a m c ≥ 0) == c' && overflowSub a m r == v

theorem test_overflow_add :
    (addRow 0x50 0x10 false 0x60 false false && addRow 0x50 0x50 false 0xA0 false true &&
      addRow 0x50 0x90 false 0xE0 false false && addRow 0x50 0xD0 false 0x20 true false &&
      addRow 0xD0 0x10 false 0xE0 false false && addRow 0xD0 0x90 false 0x60 true true &&
      addRow 0x7F 0x00 true 0x80 false true && addRow 0x80 0xFF false 0x7F true true &&
      addRow 0xFF 0xFF true 0xFF true false) = true := by decide

theorem test_overflow_subtract :
    (subtractRow 0x50 0xF0 true 0x60 false false && subtractRow 0x50 0xB0 true 0xA0 false true &&
      subtractRow 0x50 0x30 true 0x20 true false && subtractRow 0xD0 0x70 true 0x60 true true &&
      subtractRow 0xD0 0x30 true 0xA0 true false && subtractRow 0x80 0x00 false 0x7F true true &&
      subtractRow 0x7F 0xFF true 0x80 false true && subtractRow 0x00 0x80 true 0x80 false true) = true := by decide

/-- E1: SetNZ with P = FF before. -/
theorem test_E1_setNZ : setNZ 0x01 0xFF = 0x7D ∧ setNZ 0x00 0xFF = 0x7F ∧ setNZ (byteOfInt 0x180) 0x00 = 0x80 := by decide

/-- E7: Reset takes PC from ROM[7FFC] and ROM[7FFD]. -/
theorem test_E7_reset :
    let t := resetCore (hostSet .ROM 0x7FFD 0x90 (hostSet .ROM 0x7FFC 0x00 (start 0x1234 [] [])))
    (t.pc, t.ready, t.fault) = (0x9000, true, none) := by decide

/-! ## Witnesses: states and operands that meet the hypotheses of each obligation -/

/-- A state that runs one NOP. -/
def nopState : State := start 0x8000 [0xEA] []

theorem witness_DecimalFlagIsInert :
    (Instr.adcImmediate 0x01).mnemonic = .ADC ∧ (Instr.sbcIndirectIndexed 0x01).mnemonic = .SBC := by decide

/-- JSR with S = 00, so that S wraps, to an RTS. -/
theorem witness_SubroutineRoundTrip :
    let s := { start 0x8000 [0x20, 0x00, 0x90] [(0x9000, 0x60)] with sp := 0x00 }
    s.ready = true ∧ s.byteAt s.pc.toNat = 0x20 ∧ after (fun t => t.byteAt t.pc.toNat) s = some 0x60 := by decide

theorem witness_BrkHaltsAndNopDoesNothing :
    (start 0xFFFF [0x00] []).ready = true ∧ (start 0xFFFF [0x00] []).byteAt 0xFFFF = 0x00 ∧
      nopState.ready = true ∧ nopState.byteAt nopState.pc.toNat = 0xEA := by decide

/-- Both branch clauses, with the flag set and clear, and displacements on both sides of 128. -/
theorem witness_BranchesFollowTheirFlag :
    getFlag .Z { nopState with p := 0x02 }.p = true ∧ getFlag .Z nopState.p ≠ true ∧ (0x7F : Byte).toNat < 128 ∧
      ¬ (0x80 : Byte).toNat < 128 := by decide

theorem witness_RegisterWriters :
    exec .nop nopState = .next nopState ∧ writesA .nop = false ∧ writesX .nop = false ∧ writesY .nop = false ∧
      writesS .nop = false := by
  refine ⟨rfl, ?_⟩
  decide

theorem witness_FlagWriters :
    exec .clc { nopState with p := 0xFF } = .next { nopState with p := 0xFE } ∧ writesFlag .clc .Z = false := by
  refine ⟨rfl, ?_⟩
  decide

theorem witness_ControlStateWriters :
    exec .nop nopState = .next nopState ∧ writesPc .nop = false ∧ Instr.nop ≠ .brk := by
  refine ⟨rfl, ?_⟩
  decide

/-- A store to 0x1FFF: the byte below it and the byte above 0x2000 are not written. -/
theorem witness_MemoryFrame :
    (∃ t, exec (.staAbsolute 0x1FFF) nopState = .next t) ∧
      Access.write 0x1FFF ∈ bodyAccesses (.staAbsolute 0x1FFF) nopState ∧
      Access.write 0x1FFE ∉ bodyAccesses (.staAbsolute 0x1FFF) nopState ∧
      Access.write 0x2001 ∉ bodyAccesses (.staAbsolute 0x1FFF) nopState := by
  refine ⟨⟨_, rfl⟩, ?_⟩
  decide

/-- A store to ROM; the first and the last address of ROM. -/
theorem witness_RomNeverWritten :
    (∃ t, step (start 0x0200 [0x8D, 0x00, 0x80] []) = .next t) ∧ 0x8000 ≤ 0x8000 ∧ 0x8000 ≤ 0xFFFF ∧ 0xFFFF ≤ 0xFFFF := by
  refine ⟨⟨_, rfl⟩, ?_⟩
  decide

theorem witness_OneDrawPerPlaceholderRead :
    let s := start 0x8000 [0xEE, 0x00, 0x20] []
    (∃ t, step s = .next t) ∧ placeholderReads (accesses s) = 1 := by
  refine ⟨⟨_, rfl⟩, ?_⟩
  decide

/-- An instruction that straddles the end of the address space. -/
theorem witness_StepRunsDecodedInstruction :
    let s := start 0xFFFF [0xA9, 0x42, 0x07] []
    s.ready = true ∧ decode (bytesAtPc s) = .ok (.ldaImmediate 0x42, [0x07]) := by decide

theorem witness_HaltedStepChangesNothing : { nopState with ready := false }.ready = false := by decide

theorem witness_InvalidOpcodeHaltsPrecisely :
    let s := start 0xFFFF [0x02] []
    s.ready = true ∧ decodeOpcode (s.byteAt s.pc.toNat) = none := by decide

/-- Each of the three reports. -/
theorem witness_ReportOfStep :
    (∃ t, step nopState = .next t) ∧ report nopState = .continued ∧ report (start 0x8000 [0x02] []) = .faulted ∧
      report (start 0x8000 [0x00] []) = .halted := by
  refine ⟨⟨_, rfl⟩, ?_⟩
  decide

theorem witness_EncodeOfDecode : decode [0xA9, 0x10, 0x33] = .ok (.ldaImmediate 0x10, [0x33]) := by decide

theorem witness_FormsAreTheTableCells :
    (Form.mk .LDA (.immediate 0x10)).wellFormed = true ∧ (Instr.ldaImmediate 0x10).form = ⟨.LDA, .immediate 0x10⟩ := by decide

/-- A state with a byte of ROM listed, without and with a latched report. -/
theorem witness_StepKeepsInvariant :
    Inv nopState ∧ (∃ t, step nopState = .next t) ∧ Inv { nopState with ready := false, fault := some ⟨0x02, 0x8000⟩ } := by
  exact ⟨⟨by decide, trivial⟩, ⟨_, rfl⟩, by decide, rfl, rfl, rfl⟩

theorem witness_ResetStateMeetsInvariant : Memory.wf [(0x0000, 0x00), (0x6000, 0x7F), (0xFFFF, 0x01)] := by decide

theorem witness_BreakAndUnusedBitsUnobservable : SameButBU nopState { nopState with p := 0x30 } := by
  refine ⟨rfl, ?_⟩
  decide

/-- The boundaries of the map (95_test_vectors.md 3.5): each clause at its ends, and an address over 16 bits. -/
theorem witness_MemReadFollowsTheMap :
    0x0000 % 0x10000 ≤ 0x1FFF ∧ 0x1FFF % 0x10000 ≤ 0x1FFF ∧ 0x100FE % 0x10000 ≤ 0x1FFF ∧ 0x2000 % 0x10000 = 0x2000 ∧
      0x2001 ≤ 0x2001 % 0x10000 ∧ 0x5FFF % 0x10000 ≤ 0x5FFF ∧ 0x6000 ≤ 0x6000 % 0x10000 ∧ 0x7FFF % 0x10000 ≤ 0x7FFF ∧
      0x8000 ≤ 0x8000 % 0x10000 ∧ 0x8000 ≤ 0xFFFF % 0x10000 := by decide

theorem witness_MemWriteStoresOnlyInRamAndSaveRam :
    Stores (0x0000 % 0x10000) ∧ Stores (0x1FFF % 0x10000) ∧ Stores (0x6000 % 0x10000) ∧ Stores (0x7FFF % 0x10000) ∧
      Stores (0x10000 % 0x10000) ∧ ¬ Stores (0x2000 % 0x10000) ∧ ¬ Stores (0x5FFF % 0x10000) ∧
      ¬ Stores (0x8000 % 0x10000) ∧ ¬ Stores (0xFFFF % 0x10000) := by decide

/-- What StoredOnly and BytesKept ask of an address, at the ends of RAM. -/
theorem witness_StoredOnly :
    Stores 0x1FFF ∧ 0x2001 < 0x10000 ∧ 0x2001 ≠ 0x2000 ∧ ¬ (0x2001 = 0x1FFF ∧ Stores 0x1FFF) ∧
      ¬ (0x2000 = 0x2000 ∧ Stores 0x2000) := by decide

theorem witness_StackIsLastInFirstOut : (List.replicate 256 (0x5A : Byte)).length ≤ 256 := by rw [List.length_replicate]

theorem witness_PowerOnDrawsRegistersAndRam :
    8191 < 8192 ∧ (start 0x8000 [] []).mem = [] ∧ (start 0x8000 [] []).draws = 0 := by decide

theorem witness_HostAccessorsReadAndSet :
    8191 < BackingArray.RAM.size ∧ ¬ 8192 < BackingArray.RAM.size ∧ 32767 < BackingArray.ROM.size ∧
      ¬ 32768 < BackingArray.ROM.size ∧ (BackingArray.SaveRAM, 8191) ≠ (BackingArray.RAM, 8191) ∧
      Memory.wf nopState.mem := by decide

/-- BRK halts within two steps. -/
theorem witness_RunLoopIteratesStep :
    ∃ t, runLoop 2 (start 0x8000 [0x00] []) = .next t ∧ t.ready = false := ⟨_, rfl, rfl⟩

theorem witness_SafeRunsLatchNoFault : SafeFor 2 (start 0x8000 [0xEA, 0xEA] []) := by
  refine ⟨by decide, _, rfl, by decide, _, rfl, trivial⟩

/-- The last byte of RAM and the first of SaveRAM, the two bytes JSR pushes where S wraps, and the first byte of ROM. -/
theorem witness_StoreVisibleToNextFetch :
    ((0x1FFF, 0x42) ∈ storedBytes (.staAbsolute 0x1FFF) { start 0x8003 [] [] with a := 0x42 } ∧ Stores 0x1FFF) ∧
    ((0x6000, 0x42) ∈ storedBytes (.incAbsolute 0x6000) (start 0x8003 [] [(0x6000, 0x41)]) ∧ Stores 0x6000) ∧
    ((0x0100, 0x80) ∈ storedBytes (.jsr 0x9000) { start 0x8003 [] [] with sp := 0x00 } ∧
      (0x01FF, 0x02) ∈ storedBytes (.jsr 0x9000) { start 0x8003 [] [] with sp := 0x00 } ∧ Stores 0x0100 ∧ Stores 0x01FF) ∧
    0x8000 ≤ (0x8000 : Addr).toNat := by decide

end Sys2Proof.Tests
end

section
/-! SUPPORT. The draws of one step (00_scope.md R9; 20_memory.md R55, R57, R69): the fetch of an instruction as one equation,
the draws of each shared operation held against the accesses it makes, and from the two the settling of O32. -/

namespace Sys2Proof

/-- Each instruction the entry gives encodes to the opcode byte and then its operand, a word low byte first (30_encoding.md
R81, R83). -/
def Entry.EncodesWith (op : Byte) : Entry → Prop
  | .noOperand i => encode i = [op]
  | .byteOperand mk => ∀ d, encode (mk d) = [op, d]
  | .wordOperand mk => ∀ w, encode (mk w) = [op, lowByte w, highByte w]

/-- The map by opcode value (R87) agrees with the map by mnemonic (R86). -/
theorem encodesWith_of_dispatcher {op : Byte} {e : Entry} (h : dispatcher op = some e) : e.EncodesWith op := by
  have hop : op = BitVec.ofNat 8 op.toNat := by simp
  unfold dispatcher at h
  split at h
  all_goals cases h
  all_goals
    rename_i hvalue
    rw [hvalue] at hop
    subst hop
    dsimp only [Entry.EncodesWith]
    intros
    rfl

/-- An opcode with as many bytes after it as its entry asks for decodes to the instruction with that encoding (R81 to R85). -/
theorem decode_of_dispatcher {op : Byte} {e : Entry} {bs : List Byte} (h : dispatcher op = some e)
    (hlen : bs.length = e.operandBytes) : ∃ i, decode (op :: bs) = .ok (i, []) ∧ encode i = op :: bs := by
  have henc := encodesWith_of_dispatcher h
  cases e with
  | noOperand i =>
    obtain rfl := List.eq_nil_of_length_eq_zero hlen
    exact ⟨i, by simp [decode, h], henc⟩
  | byteOperand mk =>
    obtain ⟨d, rfl⟩ := List.length_eq_one_iff.1 hlen
    exact ⟨mk d, by simp [decode, h], henc d⟩
  | wordOperand mk =>
    obtain ⟨lo, hi, rfl⟩ := List.length_eq_two.1 hlen
    refine ⟨mk (joinBytes hi lo), by simp [decode, h], ?_⟩
    rw [henc, lowByte_joinBytes, highByte_joinBytes]

end Sys2Proof

namespace Sys2Proof.Machine

/-! The placeholder reads of a list of accesses. -/

@[simp] theorem placeholderReads_nil : placeholderReads [] = 0 := rfl

@[simp] theorem placeholderReads_append (l l' : List Access) :
    placeholderReads (l ++ l') = placeholderReads l + placeholderReads l' := List.count_append

@[simp] theorem placeholderReads_write_cons (addr : Nat) (l : List Access) :
    placeholderReads (.write addr :: l) = placeholderReads l := List.count_cons_of_ne (by simp)

/-- A read counts as many placeholder reads as `readByte` takes draws (R55). -/
@[simp] theorem placeholderReads_read_maskAddr_cons (addr : Nat) (l : List Access) :
    placeholderReads (.read (maskAddr addr) :: l) = placeholderReads l + drawsOf addr := by
  simp [placeholderReads, List.count_cons, drawsOf_eq]

/-- An address of 16 bits is its own mask. -/
@[simp] theorem placeholderReads_read_toNat_cons (addr : Addr) (l : List Access) :
    placeholderReads (.read addr.toNat :: l) = placeholderReads l + drawsOf addr.toNat := by
  have h := placeholderReads_read_maskAddr_cons addr.toNat l
  rwa [maskAddr_of_lt addr.isLt] at h

/-- No byte of the stack is the placeholder. -/
@[simp] theorem placeholderReads_read_stackAddr_cons (sp : Byte) (l : List Access) :
    placeholderReads (.read (stackAddr sp) :: l) = placeholderReads l := by
  have h := placeholderReads_read_maskAddr_cons (stackAddr sp) l
  rwa [drawsOf_of_ne (stackAddr_ne_placeholder sp), maskAddr_stackAddr] at h

theorem placeholderReads_zpPointer (wrap : Bool) {zp : Nat} (h : zp < 0x100) :
    placeholderReads [.read zp, .read (maskAddr (zpPointerHigh wrap zp))] = 0 := by
  obtain ⟨hlo, hhi⟩ := zpPointer_ne_placeholder wrap h
  have hcount := placeholderReads_read_maskAddr_cons zp [.read (maskAddr (zpPointerHigh wrap zp))]
  rw [maskAddr_of_lt (by omega)] at hcount
  simp [hcount, drawsOf_of_ne hlo, drawsOf_of_ne hhi]

/-- The resolver reads no placeholder (40_addressing.md R115). -/
@[simp] theorem placeholderReads_pointerReads (r : MemRef) (s : State) : placeholderReads (pointerReads r s) = 0 := by
  cases r with
  | indexedIndirect d8 => exact placeholderReads_zpPointer _ (Nat.lt_of_le_of_lt Nat.and_le_right (by decide))
  | indirectIndexed d8 => exact placeholderReads_zpPointer _ d8.isLt
  | zeroPage | zeroPageX | zeroPageY | absolute | absoluteX | absoluteY => rfl

/-! The fetch. -/

/-- Fetching one byte more is fetching one and then the rest (10_state.md R24). -/
theorem afterFetch_succ (n : Nat) (s : State) : afterFetch (n + 1) s = afterFetch n (fetch8 s).2 := by
  have hpc : s.pc + BitVec.ofNat 16 (n + 1) = s.pc + 1 + BitVec.ofNat 16 n := by
    rw [Nat.add_comm n 1, BitVec.ofNat_add, ← BitVec.add_assoc]; rfl
  have hdraws : s.draws + placeholderReads (streamReads (n + 1) s.pc) =
      s.draws + drawsOf s.pc.toNat + placeholderReads (streamReads n (s.pc + 1)) := by
    simp only [streamReads, placeholderReads_read_toNat_cons]
    omega
  simp only [afterFetch, hpc, hdraws]
  rfl

/-- The fetch moves PC and takes the draws, and changes nothing else. -/
theorem fetchBytes_snd (n : Nat) (s : State) : (fetchBytes n s).2 = afterFetch n s := by
  induction n generalizing s with
  | zero => simp [fetchBytes, afterFetch, streamReads]
  | succ n ih => rw [afterFetch_succ, ← ih]; rfl

theorem length_fetchBytes (n : Nat) (s : State) : (fetchBytes n s).1.length = n := by
  induction n generalizing s with
  | zero => rfl
  | succ n ih => exact congrArg (· + 1) (ih _)

/-- A valid opcode: its instruction, whose encoding is the bytes fetched, and the state past them (60_exceptions.md R230). -/
theorem fetchInstr_of_valid {s : State} {e : Entry} (h : dispatcher (s.byteAt s.pc.toNat) = some e) :
    ∃ i, fetchInstr s = (.ok i, afterFetch i.length s) ∧ encode i = (fetchBytes i.length s).1 := by
  obtain ⟨i, hdec, henc⟩ := decode_of_dispatcher h (length_fetchBytes e.operandBytes (fetch8 s).2)
  have hlen : i.length = e.operandBytes + 1 := by
    rw [Instr.length, henc, List.length_cons, length_fetchBytes]
  refine ⟨i, ?_, hlen ▸ henc⟩
  rw [hlen, afterFetch_succ, ← fetchBytes_snd]
  simp only [fetchInstr, fetch8_eq] at hdec ⊢
  simp only [h, hdec]

/-- The two ways a fetch ends: an instruction and all its bytes read, or an invalid opcode and that byte alone read (R233). -/
theorem fetchInstr_cases (s : State) :
    (∃ i, fetchInstr s = (.ok i, afterFetch i.length s)) ∨
      fetchInstr s = (.error (s.byteAt s.pc.toNat), afterFetch 1 s) := by
  cases h : dispatcher (s.byteAt s.pc.toNat) with
  | none =>
    rw [fetchInstr_of_invalid h, ← fetchBytes_snd]
    exact .inr rfl
  | some e =>
    obtain ⟨i, hi, -⟩ := fetchInstr_of_valid h
    exact .inl ⟨i, hi⟩

/-! The draws of each shared operation are the placeholder reads of its accesses. -/

/-- The accesses of an instruction that reads its source and no more (40_addressing.md R114). -/
def sourceAccesses : Source → State → List Access
  | .immediate _, _ => []
  | .memory r, s => pointerReads r s ++ [.read (maskAddr (effectiveAddress r s).1)]

/-- Reading a source takes a draw for each placeholder read among its accesses (R55, R103). -/
theorem drawsAfter_eq (src : Source) (s : State) :
    drawsAfter src s = s.draws + placeholderReads (sourceAccesses src s) := by
  rw [drawsAfter, readOperand_eq]
  cases src <;> simp [sourceAccesses, sourceDraws]

theorem load_draws (set : State → Byte → State) (hset : ∀ s v, (set s v).draws = s.draws) (src : Source) (s : State) :
    (load set src s).draws = s.draws + placeholderReads (sourceAccesses src s) := by
  simp [load_eq, writeRegNZ, hset, drawsAfter_eq]

theorem logical_draws (op : Byte → Byte → Byte) (src : Source) (s : State) :
    (logical op src s).draws = s.draws + placeholderReads (sourceAccesses src s) := by
  simp [logical_eq, writeRegNZ, drawsAfter_eq]

theorem testBits_draws (r : MemRef) (s : State) :
    (testBits r s).draws = s.draws + placeholderReads (sourceAccesses (.memory r) s) := by
  simp [testBits_eq, drawsAfter_eq]

theorem compareWith_draws (reg : Byte) (src : Source) (s : State) :
    (compareWith reg src s).draws = s.draws + placeholderReads (sourceAccesses src s) := by
  simp [compareWith_eq, drawsAfter_eq]

theorem addWithCarry_draws (w : Bool) (src : Source) (s : State) :
    (addWithCarry w src s).draws = s.draws + placeholderReads (sourceAccesses src s) := by
  simp [addWithCarry_eq, drawsAfter_eq]

theorem subtractWithCarry_draws (w : Bool) (src : Source) (s : State) :
    (subtractWithCarry w src s).draws = s.draws + placeholderReads (sourceAccesses src s) := by
  simp [subtractWithCarry_eq, drawsAfter_eq]

@[simp] theorem writeByte_draws (addr : Nat) (v : Byte) (s : State) : (writeByte addr v s).draws = s.draws := rfl

/-- A store takes no draw: its target is written, not read (R114). -/
theorem writeOperand_draws (r : MemRef) (v : Byte) (s : State) :
    (writeOperand r v s).draws =
      s.draws + placeholderReads (pointerReads r s ++ MemoryUse.stores.accesses (maskAddr (effectiveAddress r s).1)) := by
  simp [writeOperand_eq, MemoryUse.accesses]

theorem shiftTarget_memory_draws (f : Byte → Bool → Byte × Bool) (r : MemRef) (s : State) :
    (shiftTarget f (.memory r) s).draws =
      s.draws + placeholderReads (pointerReads r s ++ MemoryUse.modifies.accesses (maskAddr (effectiveAddress r s).1)) := by
  simp [shiftTarget_memory, drawsAfter_eq, sourceAccesses, MemoryUse.accesses]

theorem modifyMemory_draws (f : Byte → Byte) (r : MemRef) (s : State) :
    (modifyMemory f r s).draws =
      s.draws + placeholderReads (pointerReads r s ++ MemoryUse.modifies.accesses (maskAddr (effectiveAddress r s).1)) := by
  simp [modifyMemory_eq, drawsAfter_eq, sourceAccesses, MemoryUse.accesses]

@[simp] theorem branchIf_draws (cond : Bool) (d8 : Byte) (s : State) : (branchIf cond d8 s).draws = s.draws := by
  cases cond <;> rfl

/-- The two reads of an indirect target may both take a draw, or either (40_addressing.md R110). -/
theorem jumpIndirect_draws (d16 : Addr) (s : State) :
    (jumpIndirect d16 s).draws =
      s.draws + placeholderReads [.read d16.toNat, .read (maskAddr (jmpPointerHigh indJmpPageWrap d16.toNat))] := by
  simp [jumpIndirect, indirectTarget_eq, jmpPointerHigh, indJmpPageWrap]
  omega

/-- Pulling from the stack takes no draw, since no byte of the stack is the placeholder (10_state.md R33). -/
@[simp] theorem pull8_draws (s : State) : (pull8 s).2.draws = s.draws := by rw [pull8_eq]; rfl

@[simp] theorem pull16_draws (s : State) : (pull16 s).2.draws = s.draws := by rw [pull16_eq]; rfl

/-- Every instruction takes one draw for each placeholder read among its own accesses (00_scope.md R9; 20_memory.md R55, R69). -/
theorem exec_draws {i : Instr} {s t : State} (h : exec i s = .next t) :
    t.draws = s.draws + placeholderReads (bodyAccesses i s) := by
  cases i
  all_goals cases h
  case ldaImmediate | ldaZeroPage | ldaZeroPageX | ldaAbsolute | ldaAbsoluteX | ldaAbsoluteY | ldaIndexedIndirect |
      ldaIndirectIndexed | ldxImmediate | ldxZeroPage | ldxZeroPageY | ldxAbsolute | ldxAbsoluteY | ldyImmediate |
      ldyZeroPage | ldyZeroPageX | ldyAbsolute | ldyAbsoluteX =>
    exact load_draws _ (fun _ _ => rfl) _ s
  case andImmediate | andZeroPage | andZeroPageX | andAbsolute | andAbsoluteX | andAbsoluteY | andIndexedIndirect |
      andIndirectIndexed | oraImmediate | oraZeroPage | oraZeroPageX | oraAbsolute | oraAbsoluteX | oraAbsoluteY |
      oraIndexedIndirect | oraIndirectIndexed | eorImmediate | eorZeroPage | eorZeroPageX | eorAbsolute |
      eorAbsoluteX | eorAbsoluteY | eorIndexedIndirect | eorIndirectIndexed =>
    exact logical_draws _ _ s
  case bitZeroPage | bitAbsolute => exact testBits_draws _ s
  case cmpImmediate | cmpZeroPage | cmpZeroPageX | cmpAbsolute | cmpAbsoluteX | cmpAbsoluteY | cmpIndexedIndirect |
      cmpIndirectIndexed | cpxImmediate | cpxZeroPage | cpxAbsolute | cpyImmediate | cpyZeroPage | cpyAbsolute =>
    exact compareWith_draws _ _ s
  case adcImmediate | adcZeroPage | adcZeroPageX | adcAbsolute | adcAbsoluteX | adcAbsoluteY | adcIndexedIndirect |
      adcIndirectIndexed =>
    exact addWithCarry_draws _ _ s
  case sbcImmediate | sbcZeroPage | sbcZeroPageX | sbcAbsolute | sbcAbsoluteX | sbcAbsoluteY | sbcIndexedIndirect |
      sbcIndirectIndexed =>
    exact subtractWithCarry_draws _ _ s
  case staZeroPage | staZeroPageX | staAbsolute | staAbsoluteX | staAbsoluteY | staIndexedIndirect |
      staIndirectIndexed | stxZeroPage | stxZeroPageY | stxAbsolute | styZeroPage | styZeroPageX | styAbsolute =>
    exact writeOperand_draws _ _ s
  case aslZeroPage | aslZeroPageX | aslAbsolute | aslAbsoluteX | lsrZeroPage | lsrZeroPageX | lsrAbsolute |
      lsrAbsoluteX | rolZeroPage | rolZeroPageX | rolAbsolute | rolAbsoluteX | rorZeroPage | rorZeroPageX |
      rorAbsolute | rorAbsoluteX =>
    exact shiftTarget_memory_draws _ _ s
  case incZeroPage | incZeroPageX | incAbsolute | incAbsoluteX | decZeroPage | decZeroPageX | decAbsolute |
      decAbsoluteX =>
    exact modifyMemory_draws _ _ s
  case bpl | bmi | bvc | bvs | bcc | bcs | bne | beq => exact branchIf_draws _ _ s
  case jmpIndirect d16 => exact jumpIndirect_draws d16 s
  case pla | plp | rts | rti =>
    simp [pullA_eq, pullP_eq, writeRegNZ, returnFromSubroutine, returnFromInterrupt, bodyAccesses, Instr.mnemonic, Instr.form]
  -- What is left reads no byte: registers, flags and PC alone change, or the stack is written (10_state.md R32).
  all_goals rfl

/-! The step. -/

theorem step_of_ok {s s' : State} {i : Instr} (hr : s.ready = true) (hf : fetchInstr s = (.ok i, s')) :
    step s = exec i s' := by
  simp [step, hr, hf]

theorem step_of_error {s s' : State} {op : Byte} (hr : s.ready = true) (hf : fetchInstr s = (.error op, s')) :
    step s = .next (takeInvalidOpcode op s.pc s') := by
  simp [step, hr, hf]

theorem step_of_halted {s : State} (hr : s.ready = false) : step s = .next s := by
  simp [step, hr]

theorem accesses_of_ok {s s' : State} {i : Instr} (hr : s.ready = true) (hf : fetchInstr s = (.ok i, s')) :
    accesses s = streamReads i.length s.pc ++ bodyAccesses i s' := by
  simp [accesses, hr, hf]

theorem accesses_of_error {s s' : State} {op : Byte} (hr : s.ready = true) (hf : fetchInstr s = (.error op, s')) :
    accesses s = streamReads 1 s.pc := by
  simp [accesses, hr, hf]

theorem accesses_of_halted {s : State} (hr : s.ready = false) : accesses s = [] := by
  simp [accesses, hr]

end Sys2Proof.Machine

namespace Sys2Proof

open Sys2Proof.Machine

/-- Settles O32: the draws of the fetch and those of the instruction, or of the fetch alone at an invalid opcode, or none on a
halted core. -/
theorem oneDrawPerPlaceholderRead : Obligations.OneDrawPerPlaceholderRead := by
  intro s t h
  cases hr : s.ready with
  | false =>
    rw [step_of_halted hr] at h
    cases h
    rw [accesses_of_halted hr, placeholderReads_nil, Nat.add_zero]
  | true =>
    obtain ⟨i, hf⟩ | hf := fetchInstr_cases s
    · rw [step_of_ok hr hf] at h
      rw [accesses_of_ok hr hf, placeholderReads_append, ← Nat.add_assoc]
      exact exec_draws h
    · rw [step_of_error hr hf] at h
      cases h
      rw [accesses_of_error hr hf]
      rfl

end Sys2Proof
end

section
/-! SUPPORT. What an instruction can do and what it leaves, said once: the meaning of each mnemonic as one shared operation, the
operations as chains of named updates, and from the two the frame of every instruction. Settles O27, O28 and O29. -/

namespace Sys2Proof.Machine

/-- The function on states that a mnemonic stands for, with the operand it takes: one rule for each operation of 41 to 49. The
mode lists of R86 are not repeated: a rule may allow a mode the mnemonic has not. -/
inductive Meaning : Mnemonic → (State → State) → Operand → Prop
  | tax : Meaning .TAX (fun s => writeRegNZ State.setX s.a s) .implied
  | tay : Meaning .TAY (fun s => writeRegNZ State.setY s.a s) .implied
  | txa : Meaning .TXA (fun s => writeRegNZ State.setA s.x s) .implied
  | tya : Meaning .TYA (fun s => writeRegNZ State.setA s.y s) .implied
  | tsx : Meaning .TSX (fun s => writeRegNZ State.setX s.sp s) .implied
  | txs : Meaning .TXS (fun s => s.setSp s.x) .implied
  | lda (src : Source) : Meaning .LDA (load State.setA src) src.operand
  | ldx (src : Source) : Meaning .LDX (load State.setX src) src.operand
  | ldy (src : Source) : Meaning .LDY (load State.setY src) src.operand
  | sta (r : MemRef) : Meaning .STA (fun s => writeOperand r s.a s) (.memory r)
  | stx (r : MemRef) : Meaning .STX (fun s => writeOperand r s.x s) (.memory r)
  | sty (r : MemRef) : Meaning .STY (fun s => writeOperand r s.y s) (.memory r)
  | adc (src : Source) : Meaning .ADC (addWithCarry false src) src.operand
  | sbc (src : Source) : Meaning .SBC (subtractWithCarry false src) src.operand
  | and (src : Source) : Meaning .AND (logical (· &&& ·) src) src.operand
  | ora (src : Source) : Meaning .ORA (logical (· ||| ·) src) src.operand
  | eor (src : Source) : Meaning .EOR (logical (· ^^^ ·) src) src.operand
  | bit (r : MemRef) : Meaning .BIT (testBits r) (.memory r)
  | asl (target : Target) : Meaning .ASL (shiftTarget (fun v _ => shiftLeft v) target) target.operand
  | lsr (target : Target) : Meaning .LSR (shiftTarget (fun v _ => shiftRight v) target) target.operand
  | rol (target : Target) : Meaning .ROL (shiftTarget rotateLeft target) target.operand
  | ror (target : Target) : Meaning .ROR (shiftTarget rotateRight target) target.operand
  | inc (r : MemRef) : Meaning .INC (modifyMemory (· + 1) r) (.memory r)
  | dec (r : MemRef) : Meaning .DEC (modifyMemory (· - 1) r) (.memory r)
  | inx : Meaning .INX (fun s => writeRegNZ State.setX (s.x + 1) s) .implied
  | iny : Meaning .INY (fun s => writeRegNZ State.setY (s.y + 1) s) .implied
  | dex : Meaning .DEX (fun s => writeRegNZ State.setX (s.x - 1) s) .implied
  | dey : Meaning .DEY (fun s => writeRegNZ State.setY (s.y - 1) s) .implied
  | cmp (src : Source) : Meaning .CMP (fun s => compareWith s.a src s) src.operand
  | cpx (src : Source) : Meaning .CPX (fun s => compareWith s.x src s) src.operand
  | cpy (src : Source) : Meaning .CPY (fun s => compareWith s.y src s) src.operand
  | bpl (d8 : Byte) : Meaning .BPL (fun s => branchIf (!getFlag .N s.p) d8 s) (.relative d8)
  | bmi (d8 : Byte) : Meaning .BMI (fun s => branchIf (getFlag .N s.p) d8 s) (.relative d8)
  | bvc (d8 : Byte) : Meaning .BVC (fun s => branchIf (!getFlag .V s.p) d8 s) (.relative d8)
  | bvs (d8 : Byte) : Meaning .BVS (fun s => branchIf (getFlag .V s.p) d8 s) (.relative d8)
  | bcc (d8 : Byte) : Meaning .BCC (fun s => branchIf (!getFlag .C s.p) d8 s) (.relative d8)
  | bcs (d8 : Byte) : Meaning .BCS (fun s => branchIf (getFlag .C s.p) d8 s) (.relative d8)
  | bne (d8 : Byte) : Meaning .BNE (fun s => branchIf (!getFlag .Z s.p) d8 s) (.relative d8)
  | beq (d8 : Byte) : Meaning .BEQ (fun s => branchIf (getFlag .Z s.p) d8 s) (.relative d8)
  | jmpAbsolute (d16 : Addr) : Meaning .JMP (fun s => s.setPc d16) (.memory (.absolute d16))
  | jmpIndirect (d16 : Addr) : Meaning .JMP (jumpIndirect d16) (.indirect d16)
  | pha : Meaning .PHA (fun s => push8 s.a s) .implied
  | php : Meaning .PHP (fun s => push8 (s.p ||| 0x30) s) .implied
  | pla : Meaning .PLA pullA .implied
  | plp : Meaning .PLP pullP .implied
  | jsr (d16 : Addr) : Meaning .JSR (fun s => (push16 (s.pc - 1) s).setPc d16) (.memory (.absolute d16))
  | rts : Meaning .RTS returnFromSubroutine .implied
  | rti : Meaning .RTI returnFromInterrupt .implied
  | clc : Meaning .CLC (fun s => s.setP (setFlag .C false s.p)) .implied
  | sec : Meaning .SEC (fun s => s.setP (setFlag .C true s.p)) .implied
  | cli : Meaning .CLI (fun s => s.setP (setFlag .I false s.p)) .implied
  | sei : Meaning .SEI (fun s => s.setP (setFlag .I true s.p)) .implied
  | cld : Meaning .CLD (fun s => s.setP (setFlag .D false s.p)) .implied
  | sed : Meaning .SED (fun s => s.setP (setFlag .D true s.p)) .implied
  | clv : Meaning .CLV (fun s => s.setP (setFlag .V false s.p)) .implied
  | brk : Meaning .BRK (fun s => s.setReady false) .implied
  | nop : Meaning .NOP (fun s => s) .implied

/-- Every instruction answers the next state that the meaning of its mnemonic and operand gives. -/
theorem exec_meaning (i : Instr) : ∃ f, Meaning i.mnemonic f i.operand ∧ ∀ s, exec i s = .next (f s) := by
  cases i <;> exact ⟨_, by constructor, fun _ => rfl⟩

/-! The operations that have no equation yet, as chains of named updates. -/

theorem branchIf_eq (cond : Bool) (d8 : Byte) (s : State) :
    branchIf cond d8 s = s.setPc (if cond then branchTarget s.pc d8 else s.pc) := by
  cases cond <;> rfl

theorem shiftTarget_accumulator (f : Byte → Bool → Byte × Bool) (s : State) :
    shiftTarget f .accumulator s =
      (s.setA (f s.a (getFlag .C s.p)).1).setP (shiftStatus (f s.a (getFlag .C s.p)) s.p) := rfl

theorem jumpIndirect_eq (d16 : Addr) (s : State) :
    jumpIndirect d16 s =
      (s.setDraws (s.draws + drawsOf d16.toNat + drawsOf (d16.toNat + 1))).setPc (indirectTarget d16 s).1 := by
  rw [jumpIndirect, indirectTarget_eq]

theorem returnFromSubroutine_eq (s : State) :
    returnFromSubroutine s = (s.setSp (s.sp + 1 + 1)).setPc ((pull16 s).1 + 1) := by
  rw [returnFromSubroutine, pull16_eq]

theorem returnFromInterrupt_eq (s : State) :
    returnFromInterrupt s =
      ((s.setP (s.byteAt (stackAddr (s.sp + 1)))).setSp (s.sp + 1 + 1 + 1)).setPc
        (joinBytes (s.byteAt (stackAddr (s.sp + 1 + 1 + 1))) (s.byteAt (stackAddr (s.sp + 1 + 1)))) := by
  simp only [returnFromInterrupt, pull8_eq, pull16_eq]
  rfl

/-! The frame. -/

/-- What an instruction leaves of the state: each register, flag and control bit that the tables do not give it to write
(10_state.md R22, R26, R28, R36, R37), and of memory whatever a core write keeps. -/
structure Frame (i : Instr) (s t : State) : Prop where
  a : writesA i = false → t.a = s.a
  x : writesX i = false → t.x = s.x
  y : writesY i = false → t.y = s.y
  sp : writesS i = false → t.sp = s.sp
  flag : ∀ f, writesFlag i f = false → getFlag f t.p = getFlag f s.p
  pc : writesPc i = false → t.pc = s.pc
  ready : i ≠ .brk → t.ready = s.ready
  fault : t.fault = s.fault
  ramDraw : t.ramDraw = s.ramDraw
  mem (Kept : Memory → Prop) : (∀ m addr v, Kept m → Kept (Memory.write m addr v)) → Kept s.mem → Kept t.mem

theorem Flag.forall_iff {Holds : Flag → Prop} :
    (∀ f, Holds f) ↔
      Holds .C ∧ Holds .Z ∧ Holds .I ∧ Holds .D ∧ Holds .B ∧ Holds .U ∧ Holds .V ∧ Holds .N :=
  ⟨fun h => ⟨h _, h _, h _, h _, h _, h _, h _, h _⟩, fun ⟨c, z, i, d, b, u, v, n⟩ f => by cases f <;> assumption⟩

theorem eq_brk_of_mnemonic {i : Instr} (h : i.mnemonic = .BRK) : i = .brk := by
  cases i <;> cases h
  rfl

/-- Each meaning is a chain of updates, and updates no field but those the tables give its mnemonic. -/
theorem Meaning.frame {i : Instr} {f : State → State} (hm : Meaning i.mnemonic f i.operand) (s : State) :
    Frame i s (f s) := by
  generalize hmn : i.mnemonic = m, ho : i.operand = o at hm
  have hbrk : m = .BRK → i = .brk := fun h => eq_brk_of_mnemonic (hmn.trans h)
  cases hm
  case' asl target | lsr target | rol target | ror target => cases target
  all_goals
    simp -failIfUnchanged only [load_eq, logical_eq, testBits_eq, compareWith_eq, addWithCarry_eq, subtractWithCarry_eq,
      writeOperand_eq, shiftTarget_accumulator, shiftTarget_memory, modifyMemory_eq, pullA_eq, pullP_eq, push8_eq,
      push16_eq, branchIf_eq, jumpIndirect_eq, returnFromSubroutine_eq, returnFromInterrupt_eq, writeRegNZ, writeByte]
    constructor
    case flag =>
      simp [Flag.forall_iff, writesFlag, setsNZ, hmn, getFlag_setFlag, getFlag_setNZ, getFlag_shiftStatus,
        getFlag_compareStatus, getFlag_bitStatus, getFlag_adcStatus, getFlag_sbcStatus]
    case mem => simp +contextual
    all_goals simp [writesA, writesX, writesY, writesS, writesPc, hmn, ho, hbrk, Target.operand]

theorem exec_frame {i : Instr} {s t : State} (h : exec i s = .next t) : Frame i s t := by
  obtain ⟨f, hm, hf⟩ := exec_meaning i
  rw [hf] at h
  cases h
  exact hm.frame s

end Sys2Proof.Machine

namespace Sys2Proof

open Sys2Proof.Machine

/-- Settles O27, by the frame of an instruction. -/
theorem registerWriters : Obligations.RegisterWriters := by
  intro i s t h
  have hf := exec_frame h
  exact ⟨hf.a, hf.x, hf.y, hf.sp⟩

/-- Settles O28, by the frame of an instruction. -/
theorem flagWriters : Obligations.FlagWriters := fun _ _ _ f h => (exec_frame h).flag f

/-- Settles O29, by the frame of an instruction. -/
theorem controlStateWriters : Obligations.ControlStateWriters := by
  intro i s t h
  have hf := exec_frame h
  exact ⟨hf.pc, hf.ready, hf.fault, hf.ramDraw⟩

end Sys2Proof
end

section
/-! SUPPORT. The invariant and the fault latch along steps and runs (10_state.md R36, R37; 60_exceptions.md R230 to R233). Settles
O44, O45 and O59. -/

namespace Sys2Proof.Machine

/-! What a step and the run loop can do. -/

/-- The fetch answers an error at an invalid opcode alone (60_exceptions.md R233). -/
theorem dispatcher_of_fetchInstr_error {s s' : State} {op : Byte} (hf : fetchInstr s = (.error op, s')) :
    dispatcher op = none := by
  cases h : dispatcher (s.byteAt s.pc.toNat) with
  | none =>
    rw [fetchInstr_of_invalid h] at hf
    cases hf
    exact h
  | some e =>
    obtain ⟨i, hi, -⟩ := fetchInstr_of_valid h
    rw [hi] at hf
    cases hf

/-- The three ways a step ends: nothing on a halted core (R232), InvalidOpcode taken (R233), or one instruction run (R230). -/
theorem step_cases {s t : State} (h : step s = .next t) :
    (s.ready = false ∧ t = s) ∨
      (s.ready = true ∧ ∃ op, dispatcher op = none ∧ fetchInstr s = (.error op, afterFetch 1 s) ∧
        t = takeInvalidOpcode op s.pc (afterFetch 1 s)) ∨
      (s.ready = true ∧ ∃ i, fetchInstr s = (.ok i, afterFetch i.length s) ∧ exec i (afterFetch i.length s) = .next t) := by
  cases hr : s.ready with
  | false =>
    rw [step_of_halted hr] at h
    cases h
    exact .inl ⟨rfl, rfl⟩
  | true =>
    obtain ⟨i, hf⟩ | hf := fetchInstr_cases s
    · rw [step_of_ok hr hf] at h
      exact .inr (.inr ⟨rfl, i, hf, h⟩)
    · rw [step_of_error hr hf] at h
      cases h
      exact .inr (.inl ⟨rfl, _, dispatcher_of_fetchInstr_error hf, hf, rfl⟩)

theorem report_of_halted {s : State} (hr : s.ready = false) : report s = .halted := by
  simp [report, hr]

theorem report_of_error {s s' : State} {op : Byte} (hr : s.ready = true) (hf : fetchInstr s = (.error op, s')) :
    report s = .faulted := by
  simp [report, hr, hf]

theorem report_of_ok {s s' t : State} {i : Instr} (hr : s.ready = true) (hf : fetchInstr s = (.ok i, s'))
    (h : exec i s' = .next t) : report s = if t.ready then .continued else .halted := by
  simp [report, hr, hf, h]

theorem runLoop_of_halted {s : State} (hr : s.ready = false) (n : Nat) : runLoop n s = .next s := by
  cases n <;> simp [runLoop, hr]

/-- The run loop goes on from the next state, on a halted core too, whose step changes nothing. -/
theorem runLoop_succ {s t : State} (h : step s = .next t) (n : Nat) : runLoop (n + 1) s = runLoop n t := by
  cases hr : s.ready with
  | false =>
    rw [step_of_halted hr] at h
    cases h
    rw [runLoop_of_halted hr, runLoop_of_halted hr]
  | true => simp [runLoop, hr, h]

/-! The invariant and the latch. -/

theorem inv_of_fault_none {s : State} (hm : Memory.wf s.mem) (hf : s.fault = none) : Inv s := by
  refine ⟨hm, ?_⟩
  rw [hf]
  trivial

/-- A latched report halts the core, so that a ready core has none (R236). -/
theorem fault_of_inv_of_ready {s : State} (hs : Inv s) (hr : s.ready = true) : s.fault = none := by
  obtain ⟨-, hlatch⟩ := hs
  cases hf : s.fault with
  | none => rfl
  | some r =>
    rw [hf] at hlatch
    obtain ⟨hhalted, -, -⟩ := hlatch
    rw [hr] at hhalted
    cases hhalted

theorem exec_wf_mem {i : Instr} {s t : State} (h : exec i s = .next t) (hs : Memory.wf s.mem) : Memory.wf t.mem :=
  (exec_frame h).mem Memory.wf (fun _ addr v hm => Memory.wf_write hm addr v) hs

/-- The latch changes only in a step that reports `Fault` (R37). -/
theorem step_fault_of_report_ne {s t : State} (h : step s = .next t) (hrep : report s ≠ .faulted) :
    t.fault = s.fault := by
  obtain ⟨-, rfl⟩ | ⟨hr, op, -, hf, -⟩ | ⟨-, i, -, hexec⟩ := step_cases h
  · rfl
  · exact absurd (report_of_error hr hf) hrep
  · exact (exec_frame hexec).fault

end Sys2Proof.Machine

namespace Sys2Proof

open Sys2Proof.Machine

/-- Settles O44: a halted core stays as it is, an invalid opcode latches its own report, and an instruction, run by a ready core
alone, writes memory by core writes and leaves the empty latch. -/
theorem stepKeepsInvariant : Obligations.StepKeepsInvariant := by
  intro s t hs h
  obtain ⟨-, rfl⟩ | ⟨-, op, hop, -, rfl⟩ | ⟨hr, i, -, hexec⟩ := step_cases h
  · exact hs
  · exact ⟨hs.1, rfl, rfl, by rw [hop]; rfl⟩
  · have hfault : t.fault = s.fault := (exec_frame hexec).fault
    exact inv_of_fault_none (exec_wf_mem hexec hs.1) (hfault.trans (fault_of_inv_of_ready hs hr))

/-- Settles O45: Reset clears the latch and writes no memory, and PowerOn only unlists RAM. -/
theorem resetStateMeetsInvariant : Obligations.ResetStateMeetsInvariant := by
  refine ⟨inv_of_fault_none ⟨.nil, nofun⟩ rfl, rfl, rfl, fun s hs => ⟨?_, ?_⟩⟩
  · exact inv_of_fault_none hs rfl
  · exact inv_of_fault_none (Memory.wf_withoutRam hs) rfl

/-- Settles O59, by induction on the number of steps. -/
theorem safeRunsLatchNoFault : Obligations.SafeRunsLatchNoFault := by
  intro n
  induction n with
  | zero => exact fun s _ => ⟨s, rfl, rfl⟩
  | succ n ih =>
    rintro s ⟨hrep, t, hstep, hsafe⟩
    obtain ⟨u, hrun, hfault⟩ := ih t hsafe
    exact ⟨u, (runLoop_succ hstep n).trans hrun, hfault.trans (step_fault_of_report_ne hstep hrep)⟩

end Sys2Proof
end

section
/-! SUPPORT. The flag updates on numbers and on integers modulo 256 (10_state.md R29 to R31). Settles O50. -/

namespace Sys2Proof.Machine

theorem getFlag_eq_div_mod (f : Flag) (p : Byte) : getFlag f p = decide (p.toNat / 2 ^ f.bit % 2 = 1) := by
  rw [getFlag, BitVec.getLsbD, Nat.testBit_eq_decide_div_mod_eq]

theorem toNat_setFlag (f : Flag) (b : Bool) (p : Byte) :
    (setFlag f b p).toNat = (p.toNat &&& (255 - 2 ^ f.bit)) ||| (b.toNat * 2 ^ f.bit) := by
  unfold setFlag
  rw [BitVec.toNat_or, BitVec.toNat_and]
  cases f <;> cases b <;> rfl

theorem toNat_byteOfInt (v : Int) : ((byteOfInt v).toNat : Int) = v % 256 := by
  rw [byteOfInt, BitVec.toNat_ofInt]
  omega

theorem getLsbD_seven_byteOfInt (v : Int) : (byteOfInt v).getLsbD 7 = decide (128 ≤ v % 256) := by
  have h := toNat_byteOfInt v
  rw [BitVec.getLsbD, Nat.testBit_eq_decide_div_mod_eq, decide_eq_decide]
  omega

theorem byteOfInt_beq_zero (v : Int) : (byteOfInt v == 0) = decide (v % 256 = 0) := by
  have h := toNat_byteOfInt v
  rw [beq_eq_decide, decide_eq_decide, ← BitVec.toNat_inj, show (0 : Byte).toNat = 0 from rfl]
  omega

end Sys2Proof.Machine

namespace Sys2Proof

open Sys2Proof.Machine

/-- Settles O50, by the laws of setFlag and SetNZ on bytes and the two bits of an integer's low byte. -/
theorem flagUpdatesTouchTheirBits : Obligations.FlagUpdatesTouchTheirBits := by
  refine ⟨fun f b p => ⟨flagsSet_setFlag f b p, getFlag_eq_div_mod f p, toNat_setFlag f b p⟩, fun v p => ?_⟩
  rw [← getLsbD_seven_byteOfInt, ← byteOfInt_beq_zero]
  exact ⟨flagsSet_setFlag .N _ p, flagsSet_setNZ _ p⟩

end Sys2Proof
end

section
/-! SUPPORT. The stack as a last-in, first-out store in page 1, S wrapping modulo 256 (10_state.md R23, R32 to R35). Settles O51
and O52. -/

namespace Sys2Proof.Machine

theorem push8_sp (v : Byte) (s : State) : (push8 v s).sp = s.sp - 1 := rfl

/-- The byte stored is at the old S, and no other byte of the stack changes (R32). -/
theorem byteAt_push8_stackAddr (v sp : Byte) (s : State) :
    (push8 v s).byteAt (stackAddr sp) = if sp = s.sp then v else s.byteAt (stackAddr sp) := by
  rw [byteAt_push8, maskAddr_stackAddr]
  by_cases h : sp = s.sp
  · simp [h]
  · rw [if_neg h, if_neg fun e => h (stackAddr_injective e)]

/-- `Pull8()` after `Push8(v)` gives `v` and S as it was (R32, R33). -/
theorem pull8_push8 (v : Byte) (s : State) : pull8 (push8 v s) = (v, (push8 v s).setSp s.sp) := by
  have hsp : (push8 v s).sp + 1 = s.sp := BitVec.sub_add_cancel s.sp 1
  rw [pull8_eq, hsp, byteAt_push8_stackAddr, if_pos rfl]

theorem byteAt_push16_stackAddr (v : Addr) (sp : Byte) (s : State) :
    (push16 v s).byteAt (stackAddr sp) =
      if sp = s.sp - 1 then lowByte v else if sp = s.sp then highByte v else s.byteAt (stackAddr sp) := by
  rw [push16_eq, byteAt_push8_stackAddr, byteAt_push8_stackAddr, push8_sp]

theorem pull16_push16 (v : Addr) (s : State) : pull16 (push16 v s) = (v, (push16 v s).setSp s.sp) := by
  have hlo : (push16 v s).sp + 1 = s.sp - 1 := BitVec.sub_add_cancel (s.sp - 1) 1
  have hhi : s.sp - 1 + 1 = s.sp := BitVec.sub_add_cancel s.sp 1
  have hne : s.sp ≠ s.sp - 1 := by bv_omega
  rw [pull16_eq, hlo, hhi, byteAt_push16_stackAddr, byteAt_push16_stackAddr, if_pos rfl, if_neg hne, if_pos rfl,
    joinBytes_highByte_lowByte]

theorem add_one_add_ofNat (sp : Byte) (n : Nat) : sp + 1 + BitVec.ofNat 8 n = sp + BitVec.ofNat 8 (n + 1) := by
  rw [Nat.add_comm n 1, BitVec.ofNat_add, ← BitVec.add_assoc]
  rfl

/-- `n` bytes pulled are those above S, the nearest first (R33). -/
theorem pullAll_eq (n : Nat) (s : State) :
    pullAll n s =
      ((List.range n).map fun k => s.byteAt (stackAddr (s.sp + BitVec.ofNat 8 (k + 1))),
        s.setSp (s.sp + BitVec.ofNat 8 n)) := by
  induction n generalizing s with
  | zero => simp [pullAll, State.setSp]
  | succ n ih =>
    simp only [pullAll, pull8_eq, ih, State.setSp_sp, add_one_add_ofNat, List.range_succ_eq_map,
      List.map_cons, List.map_map]
    rfl

theorem pushAll_concat (vs : List Byte) (v : Byte) (s : State) : pushAll (vs ++ [v]) s = push8 v (pushAll vs s) := by
  induction vs generalizing s with
  | nil => rfl
  | cons w vs ih => exact ih _

theorem pushAll_sp (vs : List Byte) (s : State) : (pushAll vs s).sp = s.sp - BitVec.ofNat 8 vs.length := by
  induction vs generalizing s with
  | nil => exact (BitVec.sub_zero s.sp).symm
  | cons v vs ih =>
    rw [pushAll, ih, List.length_cons, push8_sp]
    bv_omega

/-- Fewer than 256 bytes pulled do not reach round to the byte just pushed (10_state.md R23). -/
theorem pullAll_push8 {n : Nat} (hn : n < 256) (v : Byte) (s : State) :
    (pullAll (n + 1) (push8 v s)).1 = v :: (pullAll n s).1 := by
  simp only [pullAll, pull8_push8, pullAll_eq]
  congr 1
  apply List.map_congr_left
  intro k hk
  have hk' := List.mem_range.1 hk
  have hne : s.sp + BitVec.ofNat 8 (k + 1) ≠ s.sp := by bv_omega
  exact (byteAt_push8_stackAddr v _ s).trans (if_neg hne)

end Sys2Proof.Machine

namespace Sys2Proof

open Sys2Proof.Machine

/-- Settles O51: the two bytes lie at two different addresses of page 1, so the second write leaves the first. -/
theorem stackWordLayoutAndRoundTrip : Obligations.StackWordLayoutAndRoundTrip := by
  intro v s
  have hne : s.sp ≠ s.sp - 1 := by bv_omega
  have hdown : s.sp - 1 - 1 = s.sp - 2 := by bv_omega
  have hup : s.sp + 1 + 1 = s.sp + 2 := BitVec.add_assoc s.sp 1 1
  simp only [← stackAddr_eq, pull16_push16, byteAt_push16_stackAddr, if_neg hne, if_true]
  refine ⟨?_, trivial, trivial, ?_, rfl, ?_⟩
  · rw [← hdown]
    rfl
  · intro b hb _ hn
    obtain ⟨hhigh, hlow⟩ := not_or.1 hn
    rw [push16_eq, byteAt_push8, byteAt_push8, push8_sp, maskAddr_of_lt hb, if_neg hlow, if_neg hhigh]
  · rw [pull16_eq, hup]
    rfl

/-- Settles O52, by induction on the list from its end: the byte pushed last is pulled first. -/
theorem stackIsLastInFirstOut : Obligations.StackIsLastInFirstOut := by
  intro vs s hlen
  constructor
  · induction vs using List.reverseRecOn with
    | nil => rfl
    | append_singleton vs v ih =>
      rw [List.length_append, List.length_singleton] at hlen ⊢
      rw [pushAll_concat, pullAll_push8 hlen, ih (by omega), List.reverse_concat]
  · have hsp : (pushAll vs s).sp + BitVec.ofNat 8 vs.length = s.sp := by
      rw [pushAll_sp, BitVec.sub_add_cancel]
    rw [pullAll_eq, hsp]
    rfl

end Sys2Proof
end

section
/-! SUPPORT. Bits 4 and 5 of P (10_state.md R40): the flags an operation reads are the other six, so that two states alike but for
B and U stay so, instruction by instruction. Settles O46. -/

namespace Sys2Proof.Machine

/-- The flags other than B and U are the same. -/
def SameLiveFlags (p q : Byte) : Prop := ∀ f, f ≠ .B → f ≠ .U → getFlag f q = getFlag f p

theorem SameLiveFlags.getFlag_eq {p q : Byte} (h : SameLiveFlags p q) {f : Flag} (hB : f ≠ .B) (hU : f ≠ .U) :
    getFlag f q = getFlag f p := h f hB hU

theorem getFlag_and (f : Flag) (p q : Byte) : getFlag f (p &&& q) = (getFlag f p && getFlag f q) := by
  unfold getFlag
  exact BitVec.getLsbD_and

theorem getFlag_or (f : Flag) (p q : Byte) : getFlag f (p ||| q) = (getFlag f p || getFlag f q) := by
  unfold getFlag
  exact BitVec.getLsbD_or

/-- The mask of R40 keeps the live flags and no other. -/
theorem sameLiveFlags_iff (p q : Byte) : SameLiveFlags p q ↔ q &&& 0xCF = p &&& 0xCF := by
  constructor
  · intro h
    apply eq_of_getFlag_eq
    intro f
    rw [getFlag_and, getFlag_and]
    cases f
    case B | U => simp [getFlag, Flag.bit]
    all_goals simp [h.getFlag_eq]
  · intro h f hB hU
    have hf := congrArg (getFlag f) h
    rw [getFlag_and, getFlag_and] at hf
    cases f
    case B => exact absurd rfl hB
    case U => exact absurd rfl hU
    all_goals simpa [getFlag, Flag.bit] using hf

namespace SameLiveFlags
variable {p q : Byte}

protected theorem refl (p : Byte) : SameLiveFlags p p := fun _ _ _ => rfl

/-- The carry, the one flag that goes into a result, is live. -/
theorem carry (h : SameLiveFlags p q) : getFlag .C q = getFlag .C p := h .C nofun nofun

theorem setFlag (h : SameLiveFlags p q) (f : Flag) (b : Bool) :
    SameLiveFlags (Machine.setFlag f b p) (Machine.setFlag f b q) := by
  intro g hB hU
  rw [getFlag_setFlag, getFlag_setFlag, h g hB hU]

theorem setNZ (h : SameLiveFlags p q) (v : Byte) : SameLiveFlags (Machine.setNZ v p) (Machine.setNZ v q) :=
  (h.setFlag .N _).setFlag .Z _

theorem shiftStatus (h : SameLiveFlags p q) (r : Byte × Bool) :
    SameLiveFlags (Machine.shiftStatus r p) (Machine.shiftStatus r q) :=
  (h.setFlag .C _).setNZ _

theorem compareStatus (h : SameLiveFlags p q) (reg m : Byte) :
    SameLiveFlags (Machine.compareStatus reg m p) (Machine.compareStatus reg m q) :=
  ((h.setFlag .C _).setFlag .Z _).setFlag .N _

theorem bitStatus (h : SameLiveFlags p q) (a m : Byte) :
    SameLiveFlags (Machine.bitStatus a m p) (Machine.bitStatus a m q) :=
  ((h.setFlag .Z _).setFlag .N _).setFlag .V _

theorem adcStatus (h : SameLiveFlags p q) (a m : Byte) :
    SameLiveFlags (Machine.adcStatus false a m p) (Machine.adcStatus false a m q) := by
  unfold Machine.adcStatus
  rw [h.carry]
  exact (h.setFlag .C _).setNZ _

theorem sbcStatus (h : SameLiveFlags p q) (a m : Byte) :
    SameLiveFlags (Machine.sbcStatus false a m p) (Machine.sbcStatus false a m q) := by
  unfold Machine.sbcStatus
  rw [h.carry]
  exact (h.setFlag .C _).setNZ _

/-- PHP pushes both bits as 1, so what it pushes does not depend on them (R40). -/
theorem or_eq (h : SameLiveFlags p q) : q ||| 0x30 = p ||| 0x30 := by
  apply eq_of_getFlag_eq
  intro f
  rw [getFlag_or, getFlag_or]
  cases f
  case B | U => simp [getFlag, Flag.bit]
  all_goals simp [h.getFlag_eq]

end SameLiveFlags

theorem sameButBU_setP {s : State} {q : Byte} (h : SameLiveFlags s.p q) : SameButBU s (s.setP q) :=
  ⟨rfl, (sameLiveFlags_iff _ _).1 h⟩

theorem SameButBU.eq_setP {s t : State} (h : SameButBU s t) : t = s.setP t.p := h.1

theorem SameButBU.sameLiveFlags {s t : State} (h : SameButBU s t) : SameLiveFlags s.p t.p :=
  (sameLiveFlags_iff _ _).2 h.2

/-! No address, operand or fetched byte depends on P. -/

theorem effectiveAddress_setP (r : MemRef) (s : State) (q : Byte) :
    (effectiveAddress r (s.setP q)).1 = (effectiveAddress r s).1 := by
  cases r <;> rfl

theorem readOperand_setP (src : Source) (s : State) (q : Byte) :
    readOperand src (s.setP q) = ((readOperand src s).1, (readOperand src s).2.setP q) := by
  rw [readOperand_eq, readOperand_eq]
  cases src with
  | immediate d8 => rfl
  | memory r => cases r <;> rfl

theorem operandOf_setP (src : Source) (s : State) (q : Byte) : operandOf src (s.setP q) = operandOf src s := by
  rw [operandOf, readOperand_setP, operandOf]

theorem drawsAfter_setP (src : Source) (s : State) (q : Byte) : drawsAfter src (s.setP q) = drawsAfter src s := by
  rw [drawsAfter, readOperand_setP, drawsAfter, State.setP_draws]

theorem fetch8_setP (s : State) (q : Byte) : fetch8 (s.setP q) = ((fetch8 s).1, (fetch8 s).2.setP q) := rfl

theorem fetchBytes_setP (n : Nat) (s : State) (q : Byte) :
    fetchBytes n (s.setP q) = ((fetchBytes n s).1, (fetchBytes n s).2.setP q) := by
  induction n generalizing s with
  | zero => rfl
  | succ n ih => simp only [fetchBytes, fetch8_setP, ih]

theorem fetchInstr_setP (s : State) (q : Byte) :
    fetchInstr (s.setP q) = ((fetchInstr s).1, (fetchInstr s).2.setP q) := by
  simp only [fetchInstr, fetch8_setP, fetchBytes_setP]
  split
  · rfl
  · split <;> rfl

/-! The instructions and the step. -/

/-- Run from a state with P changed in B and U alone, an instruction gives the same but for B and U. -/
theorem Meaning.sameButBU {m : Mnemonic} {f : State → State} {o : Operand} (hm : Meaning m f o) {s : State} {q : Byte}
    (h : SameLiveFlags s.p q) :
    f (s.setP q) = (f s).setP (f (s.setP q)).p ∧ SameLiveFlags (f s).p (f (s.setP q)).p := by
  cases hm
  case tax | tay | txa | tya | tsx | inx | iny | dex | dey | pla => exact ⟨rfl, h.setNZ _⟩
  case lda | ldx | ldy =>
    simp only [load_eq, operandOf_setP, drawsAfter_setP]
    exact ⟨rfl, h.setNZ _⟩
  case and | ora | eor =>
    simp only [logical_eq, operandOf_setP, drawsAfter_setP]
    exact ⟨rfl, h.setNZ _⟩
  case adc =>
    simp only [addWithCarry_eq, operandOf_setP, drawsAfter_setP, State.setP_p, h.carry]
    exact ⟨rfl, h.adcStatus _ _⟩
  case sbc =>
    simp only [subtractWithCarry_eq, operandOf_setP, drawsAfter_setP, State.setP_p, h.carry]
    exact ⟨rfl, h.sbcStatus _ _⟩
  case bit =>
    simp only [testBits_eq, operandOf_setP, drawsAfter_setP]
    exact ⟨rfl, h.bitStatus _ _⟩
  case cmp | cpx | cpy =>
    simp only [compareWith_eq, operandOf_setP, drawsAfter_setP]
    exact ⟨rfl, h.compareStatus _ _⟩
  case asl target | lsr target | rol target | ror target =>
    cases target with
    | accumulator =>
      simp only [shiftTarget_accumulator, State.setP_p, State.setP_a, h.carry]
      exact ⟨rfl, h.shiftStatus _⟩
    | memory r =>
      simp only [shiftTarget_memory, effectiveAddress_setP, operandOf_setP, drawsAfter_setP, State.setP_p, h.carry]
      exact ⟨rfl, h.shiftStatus _⟩
  case inc | dec =>
    simp only [modifyMemory_eq, effectiveAddress_setP, operandOf_setP, drawsAfter_setP]
    exact ⟨rfl, h.setNZ _⟩
  case sta | stx | sty =>
    simp only [writeOperand_eq, effectiveAddress_setP]
    exact ⟨rfl, h⟩
  case bpl | bmi | bvc | bvs | bcc | bcs | bne | beq =>
    simp only [branchIf_eq, State.setP_p, State.setP_pc, h.getFlag_eq, ne_eq, reduceCtorEq, not_false_eq_true]
    exact ⟨rfl, h⟩
  case php =>
    simp only [State.setP_p, h.or_eq]
    exact ⟨rfl, h⟩
  case plp | rti => exact ⟨rfl, .refl _⟩
  case clc | sec | cli | sei | cld | sed | clv => exact ⟨rfl, h.setFlag _ _⟩
  case txs | jmpAbsolute | jmpIndirect | pha | jsr | rts | brk | nop => exact ⟨rfl, h⟩

theorem takeInvalidOpcode_sameButBU (op : Byte) (pc0 : Addr) {s : State} {q : Byte} (h : SameLiveFlags s.p q) :
    SameButBU (takeInvalidOpcode op pc0 s) (takeInvalidOpcode op pc0 (s.setP q)) :=
  sameButBU_setP (s := takeInvalidOpcode op pc0 s) h

/-- The simulation: the steps of two states alike but for B and U answer two such states, with the same report. -/
theorem step_sameButBU {s : State} {q : Byte} (h : SameLiveFlags s.p q) :
    ∃ s' t', step s = .next s' ∧ step (s.setP q) = .next t' ∧ SameButBU s' t' ∧ report s = report (s.setP q) := by
  cases hr : s.ready with
  | false =>
    have hr' : (s.setP q).ready = false := hr
    exact ⟨_, _, step_of_halted hr, step_of_halted hr', sameButBU_setP h,
      (report_of_halted hr).trans (report_of_halted hr').symm⟩
  | true =>
    have hr' : (s.setP q).ready = true := hr
    have hf' := fetchInstr_setP s q
    obtain ⟨i, hf⟩ | hf := fetchInstr_cases s
    all_goals rw [hf] at hf'
    · obtain ⟨f, hm, hexec⟩ := exec_meaning i
      obtain ⟨hstate, hflags⟩ := hm.sameButBU (s := afterFetch i.length s) h
      have hsame := sameButBU_setP hflags
      rw [← hstate] at hsame
      refine ⟨_, _, (step_of_ok hr hf).trans (hexec _), (step_of_ok hr' hf').trans (hexec _), hsame, ?_⟩
      rw [report_of_ok hr hf (hexec _), report_of_ok hr' hf' (hexec _), hstate, State.setP_ready]
    · have hsame := takeInvalidOpcode_sameButBU (s.byteAt s.pc.toNat) s.pc (s := afterFetch 1 s) h
      exact ⟨_, _, step_of_error hr hf, step_of_error hr' hf', hsame,
        (report_of_error hr hf).trans (report_of_error hr' hf').symm⟩

end Sys2Proof.Machine

namespace Sys2Proof

open Sys2Proof.Machine

/-- Settles O46: the step of two states alike but for B and U, and then PHP, PLP and RTI by their own equations. -/
theorem breakAndUnusedBitsUnobservable : Obligations.BreakAndUnusedBitsUnobservable := by
  refine ⟨fun s t h => ?_, fun s => ?_, fun s => ?_⟩
  · have hstep := step_sameButBU h.sameLiveFlags
    rwa [← h.eq_setP] at hstep
  · refine ⟨_, rfl, rfl, ?_⟩
    rw [← stackAddr_eq, byteAt_push8_stackAddr, if_pos rfl]
  · rw [← stackAddr_eq]
    exact ⟨⟨_, rfl, by rw [pullP_eq]; rfl⟩, _, rfl, by rw [returnFromInterrupt_eq]; rfl⟩

end Sys2Proof
end

section
/-! SUPPORT. Memory as the core reads and writes it (20_memory.md R54 to R58, R65, R67): one read and one write against the map,
a word as two reads, and every instruction as the core writes of its list of stored bytes. Settles O30, O31, O47, O48, O49 and
O60. -/

namespace Sys2Proof.Machine

/-! One read. -/

theorem readByte_eq (addr : Nat) (s : State) :
    readByte addr s = (s.byteAt addr, s.setDraws (s.draws + drawsOf addr)) := rfl

/-- The host's accessor and the core's read see the same byte where both name one element (R55, 60_exceptions.md R244). -/
theorem hostGet_of_base_add {arr : BackingArray} {off addr : Nat} (hoff : off < arr.size)
    (h : arr.base + off = maskAddr addr) (s : State) : hostGet arr off s = some (s.byteAt addr) := by
  rw [hostGet, if_pos hoff, h, State.byteAt_maskAddr]

theorem hostGet_ram {addr : Nat} (h : maskAddr addr ≤ 0x1FFF) (s : State) :
    hostGet .RAM (maskAddr addr) s = some (s.byteAt addr) :=
  hostGet_of_base_add (Nat.lt_succ_of_le h) (Nat.zero_add _) s

theorem hostGet_saveRam {addr : Nat} (hlo : 0x6000 ≤ maskAddr addr) (hhi : maskAddr addr ≤ 0x7FFF) (s : State) :
    hostGet .SaveRAM (maskAddr addr - 0x6000) s = some (s.byteAt addr) := by
  have hoff : maskAddr addr - 0x6000 < BackingArray.SaveRAM.size := by
    rw [BackingArray.size]
    omega
  exact hostGet_of_base_add hoff (Nat.add_sub_cancel' hlo) s

theorem hostGet_rom {addr : Nat} (h : 0x8000 ≤ maskAddr addr) (s : State) :
    hostGet .ROM (maskAddr addr &&& 0x7FFF) s = some (s.byteAt addr) := by
  have hlt := maskAddr_lt addr
  have hand : maskAddr addr &&& 0x7FFF = maskAddr addr - 0x8000 := by
    rw [show 0x7FFF = 2 ^ 15 - 1 from rfl, Nat.and_two_pow_sub_one_eq_mod]
    omega
  have hoff : maskAddr addr - 0x8000 < BackingArray.ROM.size := by
    rw [BackingArray.size]
    omega
  rw [hand]
  exact hostGet_of_base_add hoff (Nat.add_sub_cancel' h) s

/-- An address that no array holds reads as unlisted, whatever memory lists. -/
theorem byteAt_of_not_backed {addr : Nat} (h : backed (maskAddr addr) = false) (s : State) :
    s.byteAt addr = Memory.unlisted s.ramDraw s.draws (maskAddr addr) := by
  simp [State.byteAt, Memory.byte, h]

/-- A read of the placeholder is the next draw (R57). -/
theorem byteAt_of_placeholder {addr : Nat} (h : maskAddr addr = 0x2000) (s : State) :
    s.byteAt addr = Config.randByte s.draws := by
  rw [byteAt_of_not_backed (by rw [h]; rfl), h]
  rfl

/-- The unmapped range reads as zero (R57). -/
theorem byteAt_of_unmapped {addr : Nat} (h : 0x2001 ≤ maskAddr addr ∧ maskAddr addr ≤ 0x5FFF) (s : State) :
    s.byteAt addr = 0x00 := by
  have hr : region (maskAddr addr) = .unmapped := by
    rw [region, if_neg (by omega), if_neg (by omega), if_pos h.2]
  rw [byteAt_of_not_backed (by rw [backed, hr]), Memory.unlisted, hr]

/-! One word. -/

/-- The second byte of a word is as before the first read: were it at 0x2000, the first would be in RAM and take no draw. -/
theorem byteAt_succ_setDraws (addr : Nat) (s : State) :
    (s.setDraws (s.draws + drawsOf addr)).byteAt (addr + 1) = s.byteAt (addr + 1) := by
  by_cases h : maskAddr (addr + 1) = 0x2000
  · have hfirst : maskAddr addr ≠ 0x2000 := by
      unfold maskAddr at h ⊢
      omega
    rw [drawsOf_of_ne hfirst]
    rfl
  · exact State.byteAt_setDraws h _

/-- `ReadWord(a)` (R58). -/
theorem readWord_eq (addr : Nat) (s : State) :
    readWord addr s =
      (joinBytes (s.byteAt (addr + 1)) (s.byteAt addr), s.setDraws (s.draws + drawsOf addr + drawsOf (addr + 1))) := by
  rw [readWord, readPair_eq, byteAt_succ_setDraws]

/-! One write. -/

/-- A discarded write changes nothing (R56). -/
theorem writeByte_of_not_writable {addr : Nat} (h : ¬ writable (maskAddr addr) = true) (v : Byte) (s : State) :
    writeByte addr v s = s := by
  rw [writeByte, Memory.write, if_neg h]
  rfl

/-! Several writes. -/

/-- Core writes one after another. -/
def writeBytes : List (Nat × Byte) → State → State
  | [], s => s
  | c :: l, s => writeBytes l (writeByte c.1 c.2 s)

@[simp] theorem writeBytes_ramDraw (l : List (Nat × Byte)) (s : State) : (writeBytes l s).ramDraw = s.ramDraw := by
  induction l generalizing s with
  | nil => rfl
  | cons c l ih => exact ih _

/-- A byte at which no write lands is kept. -/
theorem byteAt_writeBytes_of_not_written {l : List (Nat × Byte)} {b : Nat}
    (h : ∀ c ∈ l, ¬ (maskAddr b = maskAddr c.1 ∧ writable (maskAddr c.1) = true)) (s : State) :
    (writeBytes l s).byteAt b = s.byteAt b := by
  induction l generalizing s with
  | nil => rfl
  | cons c l ih =>
    obtain ⟨hc, hl⟩ := List.forall_mem_cons.1 h
    rw [writeBytes, ih hl, byteAt_writeByte, if_neg hc]

/-- Writes to different addresses leave each its own byte. -/
theorem byteAt_writeBytes_of_mem {l : List (Nat × Byte)} (hl : l.Pairwise fun c d => maskAddr c.1 ≠ maskAddr d.1)
    {a : Nat} {v : Byte} (h : (a, v) ∈ l) (hw : writable (maskAddr a) = true) (s : State) :
    (writeBytes l s).byteAt a = v := by
  induction l generalizing s with
  | nil => cases h
  | cons c l ih =>
    obtain ⟨hc, hl⟩ := List.pairwise_cons.1 hl
    obtain rfl | h := List.mem_cons.1 h
    · rw [writeBytes, byteAt_writeBytes_of_not_written fun d hd hb => hc d hd hb.1, byteAt_writeByte, if_pos ⟨rfl, hw⟩]
    · exact ih hl h _

/-! The stored bytes of an instruction. -/

/-- The addresses are masked already. -/
theorem maskAddr_of_mem_storedBytes {i : Instr} {s : State} {c : Nat × Byte} (h : c ∈ storedBytes i s) :
    maskAddr c.1 = c.1 := by
  unfold storedBytes at h
  simp only [← stackAddr_eq] at h
  split at h
  case h_1 | h_2 =>
    obtain rfl := List.mem_singleton.1 h
    exact maskAddr_stackAddr _
  case h_3 =>
    obtain rfl | rfl := List.mem_pair.1 h
    · exact maskAddr_stackAddr _
    · exact maskAddr_stackAddr _
  case h_4 =>
    obtain ⟨v, -, rfl⟩ := Option.map_eq_some_iff.1 (Option.mem_toList.1 h)
    exact maskAddr_maskAddr _
  all_goals cases h

/-- No instruction stores twice at one address: the two stack slots of JSR differ. -/
theorem pairwise_storedBytes (i : Instr) (s : State) :
    (storedBytes i s).Pairwise fun c d => maskAddr c.1 ≠ maskAddr d.1 := by
  unfold storedBytes
  simp only [← stackAddr_eq]
  split
  case h_3 =>
    have hne : s.sp ≠ s.sp - 1 := by bv_omega
    simpa [maskAddr_stackAddr] using fun h => hne (stackAddr_injective h)
  case h_4 =>
    cases storedValue _ _ s <;> simp
  all_goals simp

/-! The stored values, as bytes and as the numbers of Safety.lean. -/

theorem shiftLeft_fst (v : Byte) : (shiftLeft v).1 = BitVec.ofNat 8 (2 * v.toNat) := by
  apply BitVec.eq_of_toNat_eq
  simp [shiftLeft, Nat.shiftLeft_eq, Nat.mul_comm]

theorem shiftRight_fst (v : Byte) : (shiftRight v).1 = BitVec.ofNat 8 (v.toNat / 2) := by
  apply BitVec.eq_of_toNat_eq
  simp [shiftRight, Nat.shiftRight_eq_div_pow]
  omega

/-- The carry goes into bit 0, which the shift has cleared. -/
theorem rotateLeft_fst (v : Byte) (c : Bool) : (rotateLeft v c).1 = BitVec.ofNat 8 (2 * v.toNat + c.toNat) := by
  cases c with
  | false => exact BitVec.or_zero.trans (shiftLeft_fst v)
  | true =>
    have hor : (rotateLeft v true).1 = BitVec.ofNat 8 (2 ^ 1 * v.toNat ||| 1) := by
      rw [BitVec.ofNat_or, Nat.pow_one, ← shiftLeft_fst]
      rfl
    rw [hor, ← Nat.two_pow_add_eq_or_of_lt (by decide)]
    rfl

/-- The carry goes into bit 7, which the shift has cleared. -/
theorem rotateRight_fst (v : Byte) (c : Bool) :
    (rotateRight v c).1 = BitVec.ofNat 8 (v.toNat / 2 + 128 * c.toNat) := by
  cases c with
  | false => exact BitVec.or_zero.trans (shiftRight_fst v)
  | true =>
    have hlt : v.toNat / 2 < 2 ^ 7 := by omega
    have hor : (rotateRight v true).1 = BitVec.ofNat 8 (2 ^ 7 * 1 ||| v.toNat / 2) := by
      rw [BitVec.ofNat_or, BitVec.or_comm, ← shiftRight_fst]
      rfl
    rw [hor, ← Nat.two_pow_add_eq_or_of_lt hlt, Nat.add_comm]
    rfl

theorem add_one_eq_ofNat (v : Byte) : v + 1 = BitVec.ofNat 8 (v.toNat + 1) := by bv_omega

theorem sub_one_eq_ofNat (v : Byte) : v - 1 = BitVec.ofNat 8 (v.toNat + 255) := by bv_omega

/-! The memory that each storing operation leaves. -/

/-- The core masks the address at the access (R56). -/
theorem write_maskAddr (m : Memory) (addr : Nat) (v : Byte) : Memory.write m (maskAddr addr) v = Memory.write m addr v := by
  simp only [Memory.write, maskAddr_maskAddr]

theorem writeOperand_mem (r : MemRef) (v : Byte) (s : State) :
    (writeOperand r v s).mem = Memory.write s.mem (addressOf r s) v := by
  rw [writeOperand_eq, addressOf, write_maskAddr]
  rfl

theorem shiftTarget_memory_mem (f : Byte → Bool → Byte × Bool) (r : MemRef) (s : State) :
    (shiftTarget f (.memory r) s).mem =
      Memory.write s.mem (addressOf r s) (f (operandOf (.memory r) s) (getFlag .C s.p)).1 := by
  rw [shiftTarget_memory, addressOf, write_maskAddr]
  rfl

theorem modifyMemory_mem (f : Byte → Byte) (r : MemRef) (s : State) :
    (modifyMemory f r s).mem = Memory.write s.mem (addressOf r s) (f (operandOf (.memory r) s)) := by
  rw [modifyMemory_eq, addressOf, write_maskAddr]
  rfl

/-- The memory a meaning leaves is that of the core writes of the instruction's stored bytes. -/
theorem Meaning.mem_eq {i : Instr} {f : State → State} (hm : Meaning i.mnemonic f i.operand) (s : State) :
    (f s).mem = (writeBytes (storedBytes i s) s).mem := by
  unfold storedBytes
  simp only [← stackAddr_eq]
  generalize i.mnemonic = m, i.operand = o at hm
  cases hm
  case sta | stx | sty => exact writeOperand_mem _ _ s
  case asl target | lsr target | rol target | ror target =>
    cases target with
    | accumulator => rfl
    | memory r =>
      simp only [shiftTarget_memory_mem, shiftLeft_fst, shiftRight_fst, rotateLeft_fst, rotateRight_fst]
      rfl
  case inc | dec =>
    simp only [modifyMemory_mem, add_one_eq_ofNat, sub_one_eq_ofNat]
    rfl
  case' lda src | ldx src | ldy src | adc src | sbc src | and src | ora src | eor src | cmp src | cpx src | cpy src =>
    cases src
  all_goals
    simp -failIfUnchanged only [load_eq, logical_eq, testBits_eq, compareWith_eq, addWithCarry_eq, subtractWithCarry_eq,
      branchIf_eq, pullA_eq, pullP_eq, returnFromSubroutine_eq, returnFromInterrupt_eq]
    rfl

/-! The stored bytes against the access sequence. -/

@[simp] theorem write_notMem_pointerReads (ea : Nat) (r : MemRef) (s : State) : Access.write ea ∉ pointerReads r s := by
  cases r <;> simp [pointerReads]

theorem write_mem_accesses_iff (ea addr : Nat) (m : Mnemonic) (r : MemRef) (s : State) :
    Access.write ea ∈ (Mnemonic.memoryUse m).accesses addr ↔ ea = addr ∧ ∃ v, storedValue m r s = some v := by
  cases m <;> simp [Mnemonic.memoryUse, MemoryUse.accesses, storedValue]

/-- The addresses that the access sequence writes are those of the stored bytes (R69). -/
theorem writtenIn_bodyAccesses_iff (i : Instr) (s : State) (ea : Nat) :
    writtenIn (bodyAccesses i s) ea ↔ ∃ v, (ea, v) ∈ storedBytes i s := by
  unfold writtenIn bodyAccesses
  split
  -- PHA and PHP, the four pulls and returns, JSR, and then the operand's own mode.
  case h_1 hm | h_2 hm => simp [storedBytes, hm, stackAddr_eq]
  case h_3 hm | h_4 hm | h_6 hm | h_7 hm => cases ho : i.operand <;> simp [storedBytes, hm, ho, storedValue]
  case h_5 hm =>
    simp only [storedBytes, hm, ← stackAddr_eq]
    simp [exists_or]
  case h_9 r ho _ _ _ _ _ _ _ =>
    rw [List.mem_append, write_mem_accesses_iff _ _ _ r s]
    simp [storedBytes, addressOf, and_comm, eq_comm, *]
  all_goals simp [storedBytes, *]

/-! Every instruction and every step. -/

/-- Away from 0x2000, memory after an instruction reads as after the core writes of its stored bytes (R65, R67). -/
theorem exec_byteAt {i : Instr} {s t : State} (h : exec i s = .next t) {b : Nat} (hb : maskAddr b ≠ 0x2000) :
    t.byteAt b = (writeBytes (storedBytes i s) s).byteAt b := by
  have hdraw : t.ramDraw = (writeBytes (storedBytes i s) s).ramDraw := by
    rw [writeBytes_ramDraw, (exec_frame h).ramDraw]
  obtain ⟨f, hm, hf⟩ := exec_meaning i
  rw [hf] at h
  cases h
  exact State.byteAt_congr_of_ne (hm.mem_eq s) hdraw hb

/-- An instruction stores at no address of ROM (R54). -/
theorem exec_byteAt_rom {i : Instr} {s t : State} (h : exec i s = .next t) {b : Nat} (hlo : 0x8000 ≤ b)
    (hhi : b ≤ 0xFFFF) : t.byteAt b = s.byteAt b := by
  have hmask : maskAddr b = b := maskAddr_of_lt (by omega)
  rw [exec_byteAt h (by omega), byteAt_writeBytes_of_not_written]
  rintro c - ⟨he, hw⟩
  rw [← he, hmask, writable_iff] at hw
  omega

theorem exec_byteAt_of_stores {i : Instr} {s t : State} (h : exec i s = .next t) {ea : Nat} {v : Byte}
    (hmem : (ea, v) ∈ storedBytes i s) (hs : Stores ea) : t.byteAt ea = v := by
  have hmask : maskAddr ea = ea := maskAddr_of_mem_storedBytes hmem
  have hne : maskAddr ea ≠ 0x2000 := by
    unfold Stores at hs
    omega
  have hw : writable (maskAddr ea) = true := by rwa [hmask, ← stores_iff_writable]
  rw [exec_byteAt h hne, byteAt_writeBytes_of_mem (pairwise_storedBytes i s) hmem hw]

theorem exec_bytesKept {i : Instr} {s t : State} (h : exec i s = .next t) :
    BytesKept s t fun addr => ∃ v, (addr, v) ∈ storedBytes i s := by
  intro b hb hne hn
  have hmask : maskAddr b = b := maskAddr_of_lt hb
  rw [exec_byteAt h (by rwa [hmask]), byteAt_writeBytes_of_not_written]
  rintro c hc ⟨he, -⟩
  rw [hmask, maskAddr_of_mem_storedBytes hc] at he
  exact hn ⟨c.2, he ▸ hc⟩

/-- Taking InvalidOpcode writes no memory (60_exceptions.md R233). -/
theorem byteAt_takeInvalidOpcode (op : Byte) (pc0 : Addr) (s : State) (b : Nat) :
    (takeInvalidOpcode op pc0 s).byteAt b = s.byteAt b := rfl

end Sys2Proof.Machine

namespace Sys2Proof

open Sys2Proof.Machine

/-- Settles O30: the bytes kept are those at none of the stored addresses, which are the written ones of the access sequence. -/
theorem memoryFrame : Obligations.MemoryFrame := by
  intro i s t h b hb hne hn
  rw [writtenIn_bodyAccesses_iff] at hn
  exact exec_bytesKept h b hb hne hn

/-- Settles O31: a halted core and an invalid opcode write nothing, and no write of an instruction lands in ROM. -/
theorem romNeverWritten : Obligations.RomNeverWritten := by
  intro s t h addr hlo hhi
  have hne : maskAddr addr ≠ 0x2000 := by
    rw [maskAddr_of_lt (by omega)]
    omega
  have hfetch (n : Nat) : (afterFetch n s).byteAt addr = s.byteAt addr :=
    State.byteAt_congr_of_ne (s := s) (t := afterFetch n s) rfl rfl hne
  obtain ⟨-, rfl⟩ | ⟨-, op, -, -, rfl⟩ | ⟨-, i, -, hexec⟩ := step_cases h
  · rfl
  · exact (byteAt_takeInvalidOpcode _ _ _ _).trans (hfetch 1)
  · exact (exec_byteAt_rom hexec hlo hhi).trans (hfetch i.length)

/-- Settles O47, region by region of the map. -/
theorem memReadFollowsTheMap : Obligations.MemReadFollowsTheMap := by
  refine ⟨fun s addr => ⟨fun h => hostGet_ram h s, fun h => hostGet_rom h s,
    fun ⟨hlo, hhi⟩ => hostGet_saveRam hlo hhi s, fun h => byteAt_of_placeholder h s, fun h => byteAt_of_unmapped h s, ?_⟩,
    fun s => ?_⟩
  · rw [readByte_eq, drawsOf_eq]
    rfl
  · exact byteAt_of_placeholder (addr := 0x2000) rfl _

/-- Settles O48: a write that is not stored changes nothing, and a stored byte is what a read there and the array give. -/
theorem memWriteStoresOnlyInRamAndSaveRam : Obligations.MemWriteStoresOnlyInRamAndSaveRam := by
  intro s addr v t
  have hstored : StoredOnly s t (maskAddr addr) v := storedOnly_of_byteAt fun _ => rfl
  refine ⟨hstored, rfl, fun h => ?_, fun h => ?_⟩
  · exact writeByte_of_not_writable (fun hw => h ((stores_iff_writable _).2 hw)) v s
  · have hv : t.byteAt addr = v := (t.byteAt_maskAddr addr).symm.trans (hstored.1 h)
    have hhi : maskAddr addr ≤ 0x7FFF := by
      unfold Stores at h
      unfold maskAddr
      omega
    exact ⟨fun hram => hv ▸ hostGet_ram hram t, fun hsave => hv ▸ hostGet_saveRam hsave hhi t⟩

/-- Settles O49: the two reads of a word, of which the second sees memory as it was. -/
theorem readWordIsLittleEndian : Obligations.ReadWordIsLittleEndian := by
  intro s addr
  refine ⟨?_, ?_, ?_, ?_⟩
  · rw [readWord_eq, toNat_joinBytes, ← State.byteAt_maskAddr s addr, ← State.byteAt_maskAddr s (addr + 1)]
    rfl
  · change _ = { s with draws := s.draws + placeholderReads [.read (maskAddr addr), .read (maskAddr (addr + 1))] }
    rw [readWord_eq, placeholderReads_read_maskAddr_cons, placeholderReads_read_maskAddr_cons, placeholderReads_nil,
      Nat.zero_add, Nat.add_comm (drawsOf (addr + 1)), ← Nat.add_assoc]
    rfl
  · rw [readWord_eq]
    rfl
  · rw [readWord_eq]

/-- Settles O60, by the stored bytes of an instruction: what is stored is read, and none lies in ROM. -/
theorem storeVisibleToNextFetch : Obligations.StoreVisibleToNextFetch := by
  intro i s
  obtain ⟨f, -, hf⟩ := exec_meaning i
  refine ⟨f s, hf s, writtenIn_bodyAccesses_iff i s, fun ea v hmem hs => ?_, fun d16 hrom => ?_⟩
  · rw [fetch8_setPc_fst, toNat_ofNat_of_stores hs]
    exact exec_byteAt_of_stores (hf s) hmem hs
  · rw [fetch8_setPc_fst]
    exact exec_byteAt_rom (hf s) hrom (Nat.le_of_lt_succ d16.isLt)

end Sys2Proof
end

section
/-! SUPPORT. The decoder against the encoder, and the 256 opcode values against the (mnemonic, mode) pairs (30_encoding.md
R81 to R88). The round trips rest on one fact about each instruction, that the dispatcher's entry for its opcode makes it;
the pairs and the forms rest on one fact about each mnemonic, that its opcodes have its modes, each once. Settles O38 to
O43. -/

namespace Sys2Proof

/-! The round trips. -/

/-- The instructions an entry makes, one for each operand of its width (R85). -/
inductive Entry.Makes : Entry → Instr → Prop
  | noOperand (i : Instr) : Makes (.noOperand i) i
  | byteOperand (mk : Byte → Instr) (d : Byte) : Makes (.byteOperand mk) (mk d)
  | wordOperand (mk : Addr → Instr) (w : Addr) : Makes (.wordOperand mk) (mk w)

open Laws.Dispatched in
/-- The laws of the family Dispatched are one for each instruction. -/
theorem dispatched : ∀ i, Statement i :=
  @Instr.rec Statement
    tax tay txa tya tsx txs ldaImmediate ldaZeroPage ldaZeroPageX ldaAbsolute ldaAbsoluteX ldaAbsoluteY ldaIndexedIndirect
    ldaIndirectIndexed ldxImmediate ldxZeroPage ldxZeroPageY ldxAbsolute ldxAbsoluteY ldyImmediate ldyZeroPage ldyZeroPageX
    ldyAbsolute ldyAbsoluteX staZeroPage staZeroPageX staAbsolute staAbsoluteX staAbsoluteY staIndexedIndirect
    staIndirectIndexed stxZeroPage stxZeroPageY stxAbsolute styZeroPage styZeroPageX styAbsolute adcImmediate adcZeroPage
    adcZeroPageX adcAbsolute adcAbsoluteX adcAbsoluteY adcIndexedIndirect adcIndirectIndexed sbcImmediate sbcZeroPage
    sbcZeroPageX sbcAbsolute sbcAbsoluteX sbcAbsoluteY sbcIndexedIndirect sbcIndirectIndexed andImmediate andZeroPage
    andZeroPageX andAbsolute andAbsoluteX andAbsoluteY andIndexedIndirect andIndirectIndexed oraImmediate oraZeroPage
    oraZeroPageX oraAbsolute oraAbsoluteX oraAbsoluteY oraIndexedIndirect oraIndirectIndexed eorImmediate eorZeroPage
    eorZeroPageX eorAbsolute eorAbsoluteX eorAbsoluteY eorIndexedIndirect eorIndirectIndexed bitZeroPage bitAbsolute
    aslAccumulator aslZeroPage aslZeroPageX aslAbsolute aslAbsoluteX lsrAccumulator lsrZeroPage lsrZeroPageX lsrAbsolute
    lsrAbsoluteX rolAccumulator rolZeroPage rolZeroPageX rolAbsolute rolAbsoluteX rorAccumulator rorZeroPage rorZeroPageX
    rorAbsolute rorAbsoluteX incZeroPage incZeroPageX incAbsolute incAbsoluteX decZeroPage decZeroPageX decAbsolute
    decAbsoluteX inx iny dex dey cmpImmediate cmpZeroPage cmpZeroPageX cmpAbsolute cmpAbsoluteX cmpAbsoluteY
    cmpIndexedIndirect cmpIndirectIndexed cpxImmediate cpxZeroPage cpxAbsolute cpyImmediate cpyZeroPage cpyAbsolute bpl bmi
    bvc bvs bcc bcs bne beq jmpAbsolute jmpIndirect pha php pla plp jsr rts rti clc sec cli sei cld sed clv brk nop

/-- The dispatcher's entry for the opcode of an instruction makes that instruction. -/
theorem dispatcher_opcode (i : Instr) : ∃ e, dispatcher i.opcode = some e ∧ e.Makes i := by
  obtain ⟨-, h⟩ := dispatched i
  split at h
  · exact ⟨_, h, .noOperand i⟩
  · obtain ⟨mk, hop, rfl⟩ := h
    exact ⟨_, hop, .byteOperand mk _⟩
  · obtain ⟨mk, hop, rfl⟩ := h
    exact ⟨_, hop, .wordOperand mk _⟩
  · exact h.elim

/-- An instruction's bytes are what its entry's format says, and reading them by that format gives the operand back. -/
theorem decode_encode_append (i : Instr) (rest : List Byte) : decode (encode i ++ rest) = .ok (i, rest) := by
  obtain ⟨e, he, hmakes⟩ := dispatcher_opcode i
  have henc := encodesWith_of_dispatcher he
  cases hmakes with
  | noOperand => simp [show encode i = [i.opcode] from henc, decode, he]
  | byteOperand mk d => simp [henc d, decode, he]
  | wordOperand mk w => simp [henc w, decode, he, joinBytes_highByte_lowByte]

theorem encode_injective {i j : Instr} (h : encode i = encode j) : i = j := by
  have hi := decode_encode_append i []
  rw [h, decode_encode_append] at hi
  cases hi
  rfl

/-- In each of the three formats, the bytes the decoder takes are those the encoder gives (R81). -/
theorem eq_encode_append_of_decode {bytes rest : List Byte} {i : Instr} (h : decode bytes = .ok (i, rest)) :
    bytes = encode i ++ rest := by
  unfold decode at h
  split at h
  · cases h
  · split at h
    case h_1 | h_5 | h_6 => cases h
    all_goals
      rename_i he
      have henc := encodesWith_of_dispatcher he
      cases h
    case h_2 => exact congrArg (· ++ rest) henc.symm
    case h_3 d => exact congrArg (· ++ rest) (henc d).symm
    case h_4 lo hi =>
      have hword := henc (joinBytes hi lo)
      rw [lowByte_joinBytes, highByte_joinBytes] at hword
      exact congrArg (· ++ rest) hword.symm

/-- How many operand bytes follow the opcode in a mode (R82). -/
def Mode.operandBytes : Mode → Nat
  | .implied | .accumulator => 0
  | .immediate | .zeroPage | .zeroPageX | .zeroPageY | .indexedIndirect | .indirectIndexed | .relative => 1
  | .absolute | .absoluteX | .absoluteY | .indirect => 2

theorem Operand.length_bytes (o : Operand) : o.bytes.length = o.mode.operandBytes := by
  cases o with
  | memory r => cases r <;> rfl
  | implied | accumulator | immediate | indirect | relative => rfl

theorem Mode.operandBytes_le (mode : Mode) : mode.operandBytes ≤ 2 := by cases mode <;> decide

theorem Instr.length_eq (i : Instr) : i.length = i.mode.operandBytes + 1 := congrArg (· + 1) i.operand.length_bytes

/-- Settles O40, by the format of the instruction's entry. -/
theorem decodeOfEncode : Obligations.DecodeOfEncode := decode_encode_append

/-- Settles O41: an opcode byte, and at most two bytes of operand. -/
theorem encodeOfDecode : Obligations.EncodeOfDecode := by
  intro bytes rest i h
  have hlen := i.mode.operandBytes_le
  rw [i.length_eq]
  exact ⟨eq_encode_append_of_decode h, by omega, by omega⟩

/-! The pairs. -/

/-- The instructions of an entry differ in their operand's value alone, so that its sample shows the pair of each (R84). -/
theorem pair_eq_sample_of_dispatcher {op : Byte} {e : Entry} {i : Instr} (h : dispatcher op = some e) (hi : e.Makes i) :
    (i.mnemonic, i.mode) = (e.sample.mnemonic, e.sample.mode) := by
  unfold dispatcher at h
  split at h
  all_goals cases h
  all_goals
    cases hi
    rfl

theorem decodeOpcode_opcode (i : Instr) : decodeOpcode i.opcode = some (i.mnemonic, i.mode) := by
  obtain ⟨e, he, hmakes⟩ := dispatcher_opcode i
  rw [decodeOpcode, he, pair_eq_sample_of_dispatcher he hmakes]
  rfl

/-- The instruction of an entry's sample has the opcode of the entry. -/
theorem opcode_sample_of_dispatcher {op : Byte} {e : Entry} (h : dispatcher op = some e) : e.sample.opcode = op := by
  have henc := encodesWith_of_dispatcher h
  cases e with
  | noOperand i => exact (List.cons.inj henc).1
  | byteOperand mk => exact (List.cons.inj (henc 0)).1
  | wordOperand mk => exact (List.cons.inj (henc 0)).1

/-- A valid opcode is that of some instruction. -/
theorem exists_opcode_of_decodeOpcode {op : Byte} {p : Mnemonic × Mode} (h : decodeOpcode op = some p) :
    ∃ i : Instr, i.opcode = op := by
  obtain ⟨e, he, -⟩ := Option.map_eq_some_iff.1 h
  exact ⟨e.sample, opcode_sample_of_dispatcher he⟩

/-- The 256 opcode values, in order (R87). -/
def opcodeValues : List Byte := (List.range 256).map (BitVec.ofNat 8)

theorem mem_opcodeValues (op : Byte) : op ∈ opcodeValues :=
  List.mem_map.2 ⟨op.toNat, List.mem_range.2 op.isLt, by simp⟩

theorem nodup_opcodeValues : opcodeValues.Nodup := by
  refine List.nodup_range.map_on fun m hm n hn h => ?_
  rw [List.mem_range] at hm hn
  bv_omega

/-- The opcodes that the dispatcher gives to a mnemonic: its row of R86, found by opcode value (R87). -/
def Mnemonic.opcodes (m : Mnemonic) : List Byte :=
  opcodeValues.filter fun op => (decodeOpcode op).map Prod.fst = some m

theorem mem_opcodes_of_decodeOpcode {op : Byte} {m : Mnemonic} {mode : Mode} (h : decodeOpcode op = some (m, mode)) :
    op ∈ m.opcodes := by
  simp [Mnemonic.opcodes, mem_opcodeValues, h]

/-- The opcodes of a mnemonic have the modes of its list, each once (R86). -/
theorem map_decodeOpcode_opcodes_perm (m : Mnemonic) :
    (m.opcodes.map decodeOpcode).Perm (m.modes.map fun mode => some (m, mode)) := by
  cases m <;> decide

theorem Mnemonic.nodup_modes (m : Mnemonic) : m.modes.Nodup := by cases m <;> decide

/-- No two opcodes decode to one pair (R84). -/
theorem decodeOpcode_injective {op op' : Byte} {m : Mnemonic} {mode : Mode} (h : decodeOpcode op = some (m, mode))
    (h' : decodeOpcode op' = some (m, mode)) : op = op' := by
  have hnodup : (m.opcodes.map decodeOpcode).Nodup :=
    (map_decodeOpcode_opcodes_perm m).nodup_iff.2 (m.nodup_modes.map fun _ _ heq => by cases heq; rfl)
  exact List.inj_on_of_nodup_map hnodup (mem_opcodes_of_decodeOpcode h) (mem_opcodes_of_decodeOpcode h') (h.trans h'.symm)

/-- Every pair of R86 has an opcode. -/
theorem exists_decodeOpcode_of_mem_modes {m : Mnemonic} {mode : Mode} (h : mode ∈ m.modes) :
    ∃ op, decodeOpcode op = some (m, mode) := by
  obtain ⟨op, -, hop⟩ := List.mem_map.1 ((map_decodeOpcode_opcodes_perm m).mem_iff.2 (List.mem_map.2 ⟨mode, h, rfl⟩))
  exact ⟨op, hop⟩

theorem opcode_eq_iff (i j : Instr) : i.opcode = j.opcode ↔ i.mnemonic = j.mnemonic ∧ i.mode = j.mode := by
  have hi := decodeOpcode_opcode i
  have hj := decodeOpcode_opcode j
  constructor
  · intro h
    rw [h] at hi
    exact Prod.mk.inj (Option.some.inj (hi.symm.trans hj))
  · rintro ⟨hmnemonic, hmode⟩
    rw [hmnemonic, hmode] at hi
    exact decodeOpcode_injective hi hj

/-- Settles O39: an opcode is valid when an instruction has it, and its pair is then that instruction's. -/
theorem dispatcherIsTheOpcodeMap : Obligations.DispatcherIsTheOpcodeMap := by
  refine ⟨fun op m mode => ⟨fun h => ?_, ?_⟩, opcode_eq_iff, fun op => ?_⟩
  · obtain ⟨i, rfl⟩ := exists_opcode_of_decodeOpcode h
    cases (decodeOpcode_opcode i).symm.trans h
    exact ⟨i, rfl, rfl, rfl⟩
  · rintro ⟨i, rfl, rfl, rfl⟩
    exact decodeOpcode_opcode i
  · cases h : decodeOpcode op with
    | none => exact .inr rfl
    | some p => exact .inl ⟨p.1, p.2, rfl⟩

/-! The forms. -/

/-- The operand of a mode that has these bytes, a word low byte first (R83). -/
def Mode.operandOfBytes : Mode → List Byte → Option Operand
  | .implied, [] => some .implied
  | .accumulator, [] => some .accumulator
  | .immediate, [d8] => some (.immediate d8)
  | .zeroPage, [d8] => some (.memory (.zeroPage d8))
  | .zeroPageX, [d8] => some (.memory (.zeroPageX d8))
  | .zeroPageY, [d8] => some (.memory (.zeroPageY d8))
  | .absolute, [lo, hi] => some (.memory (.absolute (joinBytes hi lo)))
  | .absoluteX, [lo, hi] => some (.memory (.absoluteX (joinBytes hi lo)))
  | .absoluteY, [lo, hi] => some (.memory (.absoluteY (joinBytes hi lo)))
  | .indirect, [lo, hi] => some (.indirect (joinBytes hi lo))
  | .indexedIndirect, [d8] => some (.memory (.indexedIndirect d8))
  | .indirectIndexed, [d8] => some (.memory (.indirectIndexed d8))
  | .relative, [d8] => some (.relative d8)
  | _, _ => none

theorem operandOfBytes_mode_bytes (o : Operand) : o.mode.operandOfBytes o.bytes = some o := by
  cases o with
  | memory r =>
    cases r with
    | absolute w | absoluteX w | absoluteY w =>
      simp [Operand.mode, MemRef.mode, Operand.bytes, MemRef.bytes, Mode.operandOfBytes, joinBytes_highByte_lowByte]
    | zeroPage | zeroPageX | zeroPageY | indexedIndirect | indirectIndexed => rfl
  | indirect w => simp [Operand.mode, Operand.bytes, Mode.operandOfBytes, joinBytes_highByte_lowByte]
  | implied | accumulator | immediate | relative => rfl

/-- An operand is its mode and its bytes. -/
theorem Operand.eq_of_mode_eq_of_bytes_eq {o o' : Operand} (hmode : o.mode = o'.mode) (hbytes : o.bytes = o'.bytes) :
    o = o' := by
  have h := operandOfBytes_mode_bytes o
  rw [hmode, hbytes, operandOfBytes_mode_bytes] at h
  exact (Option.some.inj h).symm

/-- The mode of an entry's pair has as many operand bytes as the entry asks for (R85). -/
theorem operandBytes_mode_sample_of_dispatcher {op : Byte} {e : Entry} (h : dispatcher op = some e) :
    e.sample.mode.operandBytes = e.operandBytes := by
  have henc := encodesWith_of_dispatcher h
  have hlen := e.sample.operand.length_bytes
  cases e with
  | noOperand i => exact hlen.symm.trans (congrArg List.length (List.cons.inj henc).2)
  | byteOperand mk => exact hlen.symm.trans (congrArg List.length (List.cons.inj (henc 0)).2)
  | wordOperand mk => exact hlen.symm.trans (congrArg List.length (List.cons.inj (henc 0)).2)

theorem wellFormed_form (i : Instr) : i.form.wellFormed = true := (dispatched i).1

/-- A well-formed pair has an opcode, and the instruction that this opcode and the bytes of the operand decode to is its own. -/
theorem exists_form_eq_of_wellFormed {f : Form} (h : f.wellFormed = true) : ∃ i : Instr, i.form = f := by
  obtain ⟨op, hop⟩ := exists_decodeOpcode_of_mem_modes (List.contains_iff_mem.1 h)
  obtain ⟨e, he, hpair⟩ := Option.map_eq_some_iff.1 hop
  have hmode : e.sample.mode = f.operand.mode := congrArg Prod.snd hpair
  have hlen : f.operand.bytes.length = e.operandBytes := by
    rw [f.operand.length_bytes, ← hmode, operandBytes_mode_sample_of_dispatcher he]
  obtain ⟨i, -, henc⟩ := decode_of_dispatcher he hlen
  obtain ⟨rfl, hbytes⟩ := List.cons.inj henc
  obtain ⟨hmnemonic, hmode⟩ := Prod.mk.inj (Option.some.inj ((decodeOpcode_opcode i).symm.trans hop))
  have hoperand : i.operand = f.operand := Operand.eq_of_mode_eq_of_bytes_eq hmode hbytes
  exact ⟨i, congrArg₂ Form.mk hmnemonic hoperand⟩

/-- A form fixes the opcode and the operand bytes, and so the instruction. -/
theorem form_injective {i j : Instr} (h : i.form = j.form) : i = j := by
  have hmnemonic : i.mnemonic = j.mnemonic := congrArg Form.mnemonic h
  have hoperand : i.operand = j.operand := congrArg Form.operand h
  have hopcode : i.opcode = j.opcode := (opcode_eq_iff i j).2 ⟨hmnemonic, congrArg Operand.mode hoperand⟩
  exact encode_injective (congrArg₂ List.cons hopcode (congrArg Operand.bytes hoperand))

/-- Settles O43, by the opcode of a pair and the decoder. -/
theorem formsAreTheTableCells : Obligations.FormsAreTheTableCells := by
  refine ⟨fun f => ⟨exists_form_eq_of_wellFormed, ?_⟩, fun _ _ => form_injective⟩
  rintro ⟨i, rfl⟩
  exact wellFormed_form i

/-! The values the spec writes out. -/

/-- Settles O38: the list is the opcode values in order without the valid ones. -/
theorem invalidOpcodesAreThe105 : Obligations.InvalidOpcodesAreThe105 := by
  unfold Obligations.InvalidOpcodesAreThe105
  intro invalid
  have hinvalid : opcodeValues.filter (fun op => decodeOpcode op = none) = invalid := by decide +zetaReduce
  refine ⟨rfl, hinvalid ▸ nodup_opcodeValues.filter _, fun op => ?_⟩
  simp [← hinvalid, mem_opcodeValues]

/-- Settles O42: seven words are encodings (R81), and two have no instruction. -/
theorem sampleWordsDecode : Obligations.SampleWordsDecode := by
  refine ⟨decode_encode_append (.ldaImmediate 0x10) [], decode_encode_append (.ldaAbsoluteY 0x1234) [],
    decode_encode_append (.ldaIndexedIndirect 0x10) [], decode_encode_append (.jmpIndirect 0x1234) [],
    decode_encode_append .aslAccumulator [], decode_encode_append (.bne 0xFB) [],
    decode_encode_append (.stxZeroPageY 0x10) [], rfl, rfl⟩

end Sys2Proof
end

section
/-! SUPPORT. The effective addresses as numbers: the masks as remainders, a zero-page pointer as the word of its two bytes,
and the address named as one below 0x10000 (40_addressing.md R104 to R112). Settles O53 and O54. -/

namespace Sys2Proof.Machine

theorem and_0xFF_eq_mod (n : Nat) : n &&& 0xFF = n % 256 := Nat.and_two_pow_sub_one_eq_mod n 8

/-- A zero-page pointer names the little-endian word of its two bytes, the second in page 0 under `ZP_PTR_WRAP` (R111, R112). -/
theorem toNat_readZpPointer (wrap : Bool) {zp : Nat} (h : zp < 0x100) (s : State) :
    (readZpPointer wrap zp s).1.toNat =
      (s.byteAt zp).toNat + 256 * (s.byteAt (if wrap then (zp + 1) % 256 else zp + 1)).toNat := by
  rw [readZpPointer_eq wrap h, toNat_joinBytes, zpPointerHigh, and_0xFF_eq_mod]

/-- `(zp,X)`: the pointer is in page 0, and its word is the address (R111). -/
theorem effectiveAddressWith_indexedIndirect_fst (wrap : Bool) (d8 : Byte) (s : State) :
    (effectiveAddressWith wrap (.indexedIndirect d8) s).1 =
      (readZpPointer wrap ((d8.toNat + s.x.toNat) % 256) s).1.toNat := by
  rw [← and_0xFF_eq_mod]
  rfl

/-- The mask at the access changes no address of 16 bits (R108). -/
theorem addressOf_of_lt {r : MemRef} {s : State} (h : (effectiveAddress r s).1 < 0x10000) :
    addressOf r s = (effectiveAddress r s).1 := maskAddr_of_lt h

/-- An indexed zero-page address lies in page 0 (R105, R106). -/
theorem addressOf_of_eq_and_0xFF {r : MemRef} {s : State} {n : Nat} (h : (effectiveAddress r s).1 = n &&& 0xFF) :
    addressOf r s = n % 256 := by
  rw [and_0xFF_eq_mod] at h
  rw [addressOf_of_lt (by omega), h]

/-- `Operand(m)` in memory: the byte at the address named, and a draw exactly if that is 0x2000 (R114, 20_memory.md R55). -/
theorem readOperand_memory_eq (r : MemRef) (s : State) :
    readOperand (.memory r) s =
      (s.byteAt (addressOf r s), s.setDraws (s.draws + if addressOf r s = 0x2000 then 1 else 0)) := by
  rw [readOperand_eq, addressOf, State.byteAt_maskAddr, ← drawsOf_eq]
  rfl

end Sys2Proof.Machine

namespace Sys2Proof

open Sys2Proof.Machine

/-- Settles O53, mode by mode: the index is masked in page 0 or at the access, and a pointer is the word of its two bytes. -/
theorem resolverAddresses : Obligations.ResolverAddresses := by
  intro s d8 d16 word
  have hindexed (wrap : Bool) :
      (effectiveAddressWith wrap (.indexedIndirect d8) s).1 = word wrap ((d8.toNat + s.x.toNat) % 256) := by
    rw [effectiveAddressWith_indexedIndirect_fst, toNat_readZpPointer wrap (Nat.mod_lt _ (by decide))]
  have hindirect (wrap : Bool) :
      (effectiveAddressWith wrap (.indirectIndexed d8) s).1 = word wrap d8.toNat + s.y.toNat :=
    congrArg (· + s.y.toNat) (toNat_readZpPointer wrap d8.isLt s)
  have hzeroPage : d8.toNat < 0x10000 := Nat.lt_trans d8.isLt (by decide)
  have hpointer : (effectiveAddress (.indexedIndirect d8) s).1 < 0x10000 := BitVec.isLt _
  exact ⟨addressOf_of_lt hzeroPage, addressOf_of_eq_and_0xFF rfl, addressOf_of_eq_and_0xFF rfl,
    addressOf_of_lt d16.isLt, rfl, rfl, rfl, (addressOf_of_lt hpointer).trans (hindexed false),
    congrArg maskAddr (hindirect false), fun wrap => ⟨hindexed wrap, hindirect wrap⟩⟩

/-- Settles O54: the pointers of the resolver are never at 0x2000, so that the operand's own read alone can take a draw. -/
theorem resolverChangesNoState : Obligations.ResolverChangesNoState := by
  intro s r d8
  exact ⟨effectiveAddress_snd r s, readOperand_memory_eq r s, rfl⟩

end Sys2Proof
end

section
/-! SUPPORT. Transfers, loads and stores (41_transfer_load_store.md R121 to R132): what an encoding is by the round trip, and each
shape of instruction of Safety.lean by the one shared operation its meaning is. Settles O1, O2, O3 and O4. -/

namespace Sys2Proof.Machine

/-- The decoder's half of an encoding is the round trip. -/
theorem encodedAs_of_encode {i : Instr} {bytes : List Byte} (h : encode i = bytes) : EncodedAs i bytes := by
  subst h
  exact ⟨rfl, decode_encode_append i⟩

section
variable {set : State → Byte → State} {i : Instr} {src : Source}

theorem writesRegNZ_of_exec {v : State → Byte} (h : ∀ s, exec i s = .next (writeRegNZ set (v s) s)) :
    WritesRegNZ set v i :=
  fun s => ⟨setNZ (v s) s.p, h s, flagsSet_setNZ _ _⟩

/-- Reading the source leaves the draw count alone changed, and writing a register does not touch that. -/
theorem loadsNZ_of_exec {f : Byte → Byte → Byte} (hset : ∀ s n v, set (s.setDraws n) v = (set s v).setDraws n)
    (h : ∀ s, exec i s = .next (writeRegNZ set (f s.a (operandOf src s)) (s.setDraws (drawsAfter src s)))) :
    LoadsNZ set f i src := by
  intro s
  refine ⟨setNZ (f s.a (operandOf src s)) s.p, ?_, flagsSet_setNZ _ _⟩
  rw [h, writeRegNZ, hset]
  rfl

/-- `reg <- Operand(m); SetNZ(reg)` (R127 to R129). -/
theorem loadsNZ_of_load (hset : ∀ s n v, set (s.setDraws n) v = (set s v).setDraws n)
    (h : ∀ s, exec i s = .next (load set src s)) : LoadsNZ set (fun _ m => m) i src :=
  loadsNZ_of_exec hset fun s => by rw [h, load_eq]

end

/-- `MemWrite(EA(m), 1, reg)` (R130 to R132). -/
theorem storesReg_of_exec {v : State → Byte} {i : Instr} {r : MemRef}
    (h : ∀ s, exec i s = .next (writeOperand r (v s) s)) : StoresReg v i r := by
  intro s
  have hw : exec i s = .next (writeByte (effectiveAddress r s).1 (v s) s) := by rw [h, writeOperand_eq]
  exact ⟨_, hw, rfl, storedOnly_of_byteAt fun _ => rfl⟩

/-- TXS on this hardware (R126). -/
theorem exec_txs (s : State) : exec .txs s = .next (s.setSp s.x) := rfl

/-- TXS where `TXS_UPDATES_NZ` is true (R126). -/
theorem transferXToS_true (s : State) : transferXToS true s = writeRegNZ State.setSp s.x s := rfl

end Sys2Proof.Machine

namespace Sys2Proof

open Sys2Proof.Machine

/-- Settles O1: each transfer is one register write with N and Z. -/
theorem transfersCopyAndSetNZ : Obligations.TransfersCopyAndSetNZ := by
  refine ⟨?tax, ?tay, ?txa, ?tya, ?tsx⟩
  all_goals exact ⟨encodedAs_of_encode rfl, writesRegNZ_of_exec fun _ => rfl⟩

/-- Settles O2: with the parameter false one register write, with it true the same write with N and Z. -/
theorem transferXToStackPointer : Obligations.TransferXToStackPointer :=
  ⟨encodedAs_of_encode rfl, fun s => ⟨exec_txs s, _, transferXToS_true s, flagsSet_setNZ _ _⟩⟩

/-- Settles O3: each form is a load from the source its mode names. -/
theorem loadsPutOperandInRegister : Obligations.LoadsPutOperandInRegister := by
  unfold Obligations.LoadsPutOperandInRegister
  and_intros
  all_goals exact fun _ => ⟨encodedAs_of_encode rfl, loadsNZ_of_load (fun _ _ _ => rfl) fun _ => rfl⟩

/-- Settles O4: each form is one write at the address its mode names. -/
theorem storesWriteOneByte : Obligations.StoresWriteOneByte := by
  unfold Obligations.StoresWriteOneByte
  and_intros
  all_goals exact fun _ => ⟨encodedAs_of_encode rfl, storesReg_of_exec fun _ => rfl⟩

end Sys2Proof
end

section
/-! SUPPORT. Add and subtract with carry (42_arithmetic.md R141 to R146): SBC as ADC of the complemented operand, the two
overflow formulas as the signed range, and the Decimal flag as one that neither operation reads or writes. Settles O5, O6, O7,
O8 and O9. -/

namespace Sys2Proof

theorem toNat_xor_0xFF (m : Byte) : (m ^^^ 0xFF).toNat = 255 - m.toNat := by
  rw [show (0xFF : Byte) = BitVec.allOnes 8 from rfl, BitVec.xor_allOnes, BitVec.toNat_not]

theorem sext8_xor_0xFF (m : Byte) : sext8 (m ^^^ 0xFF) = -1 - sext8 m := by
  rw [sext8, sext8, toNat_xor_0xFF]
  split <;> split <;> omega

end Sys2Proof

namespace Sys2Proof.Machine

/-! SBC with M is ADC with `M ^ 0xFF` (R146). -/

theorem sbcDiff_eq_adcSum_xor (a m : Byte) (c : Bool) : sbcDiff a m c = (adcSum a (m ^^^ 0xFF) c : Int) - 256 := by
  rw [sbcDiff, adcSum, toNat_xor_0xFF]
  omega

/-- No borrow is a carry out. -/
theorem sbcDiff_nonneg_iff (a m : Byte) (c : Bool) : sbcDiff a m c ≥ 0 ↔ adcSum a (m ^^^ 0xFF) c > 255 := by
  rw [sbcDiff_eq_adcSum_xor]
  omega

theorem toNat_adcResult (a m : Byte) (c : Bool) : (adcResult a m c).toNat = adcSum a m c % 256 := BitVec.toNat_ofNat _ _

theorem toNat_sbcResult (a m : Byte) (c : Bool) : ((sbcResult a m c).toNat : Int) = sbcDiff a m c % 256 :=
  toNat_byteOfInt _

theorem sbcResult_eq_adcResult_xor (a m : Byte) (c : Bool) : sbcResult a m c = adcResult a (m ^^^ 0xFF) c := by
  apply BitVec.eq_of_toNat_eq
  have h := toNat_sbcResult a m c
  rw [sbcDiff_eq_adcSum_xor] at h
  rw [toNat_adcResult]
  omega

/-- The mask of the overflow formulas keeps bit 7 alone (R144). -/
theorem and_0x80_bne_zero (b : Byte) : (b &&& 0x80 != 0) = b.msb := by
  rw [show (0x80 : Byte) = BitVec.twoPow 8 7 from rfl, BitVec.and_twoPow, BitVec.msb_eq_getLsbD_last]
  cases b.getLsbD 7 <;> rfl

theorem overflowAdd_eq_msb (a m r : Byte) : overflowAdd a m r = ((a.msb ^^ r.msb) && (m.msb ^^ r.msb)) := by
  rw [overflowAdd, and_0x80_bne_zero, BitVec.msb_and, BitVec.msb_xor, BitVec.msb_xor]

theorem overflowSub_eq_msb (a m r : Byte) : overflowSub a m r = ((a.msb ^^ r.msb) && (a.msb ^^ m.msb)) := by
  rw [overflowSub, and_0x80_bne_zero, BitVec.msb_and, BitVec.msb_xor, BitVec.msb_xor]

/-- Where A and `r` differ in sign, `A ^ M` and `(M ^ 0xFF) ^ r` have one sign bit; where they agree, both formulas are 0. -/
theorem overflowSub_eq_overflowAdd_xor (a m r : Byte) : overflowSub a m r = overflowAdd a (m ^^^ 0xFF) r := by
  rw [overflowSub_eq_msb, overflowAdd_eq_msb, BitVec.msb_xor, show (0xFF : Byte).msb = true from rfl]
  cases a.msb <;> cases m.msb <;> cases r.msb <;> rfl

theorem sbcStatus_eq_adcStatus_xor (w : Bool) (a m p : Byte) : sbcStatus w a m p = adcStatus w a (m ^^^ 0xFF) p := by
  simp only [sbcStatus, adcStatus, sbcResult_eq_adcResult_xor, sbcDiff_nonneg_iff, overflowSub_eq_overflowAdd_xor]

/-- For the immediate form the law holds of the whole state; in memory no operand need hold the complement. -/
theorem subtractWithCarry_immediate (w : Bool) (d8 : Byte) (s : State) :
    subtractWithCarry w (.immediate d8) s = addWithCarry w (.immediate (d8 ^^^ 0xFF)) s := by
  rw [subtractWithCarry, addWithCarry]
  simp only [readOperand, sbcResult_eq_adcResult_xor, sbcStatus_eq_adcStatus_xor]

/-! V as the signed range (R144). -/

theorem overflowAdd_iff (a m r : Byte) :
    overflowAdd a m r = true ↔ ¬ (128 ≤ a.toNat ↔ 128 ≤ r.toNat) ∧ ¬ (128 ≤ m.toNat ↔ 128 ≤ r.toNat) := by
  have hmsb (b : Byte) : b.msb = decide (128 ≤ b.toNat) := BitVec.msb_eq_decide b
  rw [overflowAdd_eq_msb, Bool.and_eq_true, Bool.xor_iff_ne, Bool.xor_iff_ne, hmsb, hmsb, hmsb, ne_eq, ne_eq,
    decide_eq_decide, decide_eq_decide]

/-- Both operands have one sign and the result the other exactly when the true sum is no signed byte. -/
theorem overflowAdd_adcResult (a m : Byte) (c : Bool) :
    overflowAdd a m (adcResult a m c) =
      decide (sext8 a + sext8 m + c.toNat < -128 ∨ sext8 a + sext8 m + c.toNat > 127) := by
  have hc : c.toNat ≤ 1 := c.toNat_le
  rw [Bool.eq_iff_iff, overflowAdd_iff, decide_eq_true_iff, toNat_adcResult, adcSum, sext8, sext8]
  split <;> split <;> omega

/-- The complement of M is `-1 - M` as a signed byte, so that the difference is the sum of R146. -/
theorem overflowSub_sbcResult (a m : Byte) (c : Bool) :
    overflowSub a m (sbcResult a m c) =
      decide (sext8 a - sext8 m - (1 - (c.toNat : Int)) < -128 ∨ sext8 a - sext8 m - (1 - (c.toNat : Int)) > 127) := by
  have h : sext8 a + sext8 (m ^^^ 0xFF) + c.toNat = sext8 a - sext8 m - (1 - (c.toNat : Int)) := by
    rw [sext8_xor_0xFF]
    omega
  rw [overflowSub_eq_overflowAdd_xor, sbcResult_eq_adcResult_xor, overflowAdd_adcResult, h]

/-! The flags and the states (R142, R143). -/

theorem flagsSet_adcStatus (w : Bool) (a m p : Byte) :
    FlagsSet p (adcStatus w a m p)
      ([(.C, decide (adcSum a m (getFlag .C p) > 255))] ++ nzOf (adcResult a m (getFlag .C p)) ++
        if w then [(.V, overflowAdd a m (adcResult a m (getFlag .C p)))] else []) := by
  intro f
  rw [getFlag_adcStatus]
  cases w <;> cases f <;> rfl

theorem flagsSet_sbcStatus (w : Bool) (a m p : Byte) :
    FlagsSet p (sbcStatus w a m p)
      ([(.C, decide (sbcDiff a m (getFlag .C p) ≥ 0))] ++ nzOf (sbcResult a m (getFlag .C p)) ++
        if w then [(.V, overflowSub a m (sbcResult a m (getFlag .C p)))] else []) := by
  intro f
  rw [getFlag_sbcStatus]
  cases w <;> cases f <;> rfl

theorem addsWithCarry_of_run {w : Bool} {run : State → Result} {src : Source}
    (h : ∀ s, run s = .next (addWithCarry w src s)) : AddsWithCarry w run src := by
  intro s
  have hflags := flagsSet_adcStatus w s.a (operandOf src s) s.p
  rw [overflowAdd_adcResult] at hflags
  exact ⟨_, _, by rw [h, addWithCarry_eq]; rfl, toNat_adcResult _ _ _, hflags⟩

theorem subtractsWithCarry_of_run {w : Bool} {run : State → Result} {src : Source}
    (h : ∀ s, run s = .next (subtractWithCarry w src s)) : SubtractsWithCarry w run src := by
  intro s
  have hflags := flagsSet_sbcStatus w s.a (operandOf src s) s.p
  rw [overflowSub_sbcResult] at hflags
  exact ⟨_, _, by rw [h, subtractWithCarry_eq]; rfl, toNat_sbcResult _ _ _, hflags⟩

/-! The Decimal flag (R141). -/

/-- Writes of two different flags commute (10_state.md R29). -/
theorem setFlag_comm {f g : Flag} (h : f ≠ g) (b b' : Bool) (p : Byte) :
    setFlag f b (setFlag g b' p) = setFlag g b' (setFlag f b p) := by
  apply eq_of_getFlag_eq
  intro e
  simp only [getFlag_setFlag]
  by_cases hf : e = f
  · subst hf
    rw [if_pos rfl, if_neg h, if_pos rfl]
  · rw [if_neg hf, if_neg hf]

/-- The carry, the one flag that ADC and SBC read, is not D. -/
theorem carry_setFlag_decimal (b : Bool) (p : Byte) : getFlag .C (setFlag .D b p) = getFlag .C p :=
  getFlag_setFlag_of_ne (by decide) b p

theorem adcStatus_setFlag_decimal (w : Bool) (a m : Byte) (b : Bool) (p : Byte) :
    adcStatus w a m (setFlag .D b p) = setFlag .D b (adcStatus w a m p) := by
  have hcomm {f : Flag} (h : f ≠ .D) (v : Bool) (q : Byte) : setFlag f v (setFlag .D b q) = setFlag .D b (setFlag f v q) :=
    setFlag_comm h v b q
  cases w <;> simp [adcStatus, setNZ, setN, carry_setFlag_decimal, hcomm]

theorem addWithCarry_setP_decimal (w : Bool) (src : Source) (b : Bool) (s : State) :
    addWithCarry w src (s.setP (setFlag .D b s.p)) =
      (addWithCarry w src s).setP (setFlag .D b (addWithCarry w src s).p) := by
  simp only [addWithCarry_eq, operandOf_setP, drawsAfter_setP, State.setP_p, carry_setFlag_decimal]
  rw [State.setP_a, adcStatus_setFlag_decimal]
  rfl

theorem subtractWithCarry_setP_decimal (w : Bool) (src : Source) (b : Bool) (s : State) :
    subtractWithCarry w src (s.setP (setFlag .D b s.p)) =
      (subtractWithCarry w src s).setP (setFlag .D b (subtractWithCarry w src s).p) := by
  simp only [subtractWithCarry_eq, operandOf_setP, drawsAfter_setP, State.setP_p, carry_setFlag_decimal]
  rw [State.setP_a, sbcStatus_eq_adcStatus_xor, sbcStatus_eq_adcStatus_xor, adcStatus_setFlag_decimal]
  rfl

end Sys2Proof.Machine

namespace Sys2Proof

open Sys2Proof.Machine

/-- Settles O5: each form is one addition from the source its mode names. -/
theorem addWithCarryResult : Obligations.AddWithCarryResult := by
  refine ⟨?immediate, ?zeroPage, ?zeroPageX, ?absolute, ?absoluteX, ?absoluteY, ?indexedIndirect, ?indirectIndexed,
    fun _ => addsWithCarry_of_run fun _ => rfl⟩
  all_goals exact fun _ => ⟨encodedAs_of_encode rfl, addsWithCarry_of_run fun _ => rfl⟩

/-- Settles O6: each form is one subtraction from the source its mode names. -/
theorem subtractWithCarryResult : Obligations.SubtractWithCarryResult := by
  refine ⟨?immediate, ?zeroPage, ?zeroPageX, ?absolute, ?absoluteX, ?absoluteY, ?indexedIndirect, ?indirectIndexed,
    fun _ => subtractsWithCarry_of_run fun _ => rfl⟩
  all_goals exact fun _ => ⟨encodedAs_of_encode rfl, subtractsWithCarry_of_run fun _ => rfl⟩

/-- Settles O7: the two ranges, the formulas as they stand, and V among the flags of each operation. -/
theorem overflowFormulasAreSignedRange : Obligations.OverflowFormulasAreSignedRange := by
  intro a m p c
  refine ⟨overflowAdd_adcResult a m c, overflowSub_sbcResult a m c, fun r => ?_, fun r => ?_,
    flagsSet_adcStatus false a m p .V, flagsSet_sbcStatus false a m p .V, flagsSet_adcStatus true a m p .V,
    flagsSet_sbcStatus true a m p .V⟩
  · rw [overflowAdd, bne, beq_eq_decide, decide_not]
  · rw [overflowSub, bne, beq_eq_decide, decide_not]

/-- Settles O8: the difference as a sum, and from it the carry, the result, V and P. -/
theorem subtractIsAddOfComplement : Obligations.SubtractIsAddOfComplement := by
  refine ⟨fun a m p c w => ⟨sbcDiff_eq_adcSum_xor a m c, sbcDiff_nonneg_iff a m c, sbcResult_eq_adcResult_xor a m c, ?_,
    sbcStatus_eq_adcStatus_xor w a m p⟩, fun d8 s => congrArg Host.Outcome.next (subtractWithCarry_immediate _ d8 s)⟩
  rw [overflowSub_eq_overflowAdd_xor, sbcResult_eq_adcResult_xor]

/-- Settles O9: the carry is the only flag that is read, and D is none of those written. -/
theorem decimalFlagIsInert : Obligations.DecimalFlagIsInert := by
  intro i s b hi
  obtain ⟨f, hm, hexec⟩ := exec_meaning i
  refine ⟨f s, hexec s, (hexec _).trans (congrArg Host.Outcome.next ?_)⟩
  generalize i.mnemonic = mnemonic, i.operand = operand at hm hi
  obtain rfl | rfl := hi
  · cases hm with
    | adc src => exact addWithCarry_setP_decimal false src b s
  · cases hm with
    | sbc src => exact subtractWithCarry_setP_decimal false src b s

end Sys2Proof
end

section
/-! SUPPORT. Logical instructions and bit test (43_logical.md R151 to R154): each form by the one shared operation its meaning is.
Settles O10 and O11. -/

namespace Sys2Proof.Machine

/-- `A <- A op Operand(m); SetNZ(A)` (R151 to R153). -/
theorem loadsNZ_of_logical {op : Byte → Byte → Byte} {i : Instr} {src : Source}
    (h : ∀ s, exec i s = .next (logical op src s)) : LoadsNZ State.setA op i src :=
  loadsNZ_of_exec (fun _ _ _ => rfl) fun s => by rw [h, logical_eq]

/-- BIT writes P alone, and the read of its operand the draw count (R154). -/
theorem testsBits_of_exec {i : Instr} {r : MemRef} (h : ∀ s, exec i s = .next (testBits r s)) : TestsBits i r := by
  intro s
  refine ⟨bitStatus s.a (operandOf (.memory r) s) s.p, ?_, flagsSet_bitStatus _ _ _⟩
  rw [h, testBits_eq]
  rfl

end Sys2Proof.Machine

namespace Sys2Proof

open Sys2Proof.Machine

/-- Settles O10: each form is one logical operation on A and the source its mode names. -/
theorem logicalResults : Obligations.LogicalResults := by
  unfold Obligations.LogicalResults
  and_intros
  all_goals exact fun _ => ⟨encodedAs_of_encode rfl, loadsNZ_of_logical fun _ => rfl⟩

/-- Settles O11: each form is one bit test of the byte its mode names. -/
theorem bitTestFlags : Obligations.BitTestFlags := by
  refine ⟨?zeroPage, ?absolute⟩
  all_goals exact fun _ => ⟨encodedAs_of_encode rfl, testsBits_of_exec fun _ => rfl⟩

end Sys2Proof
end

section
/-! SUPPORT. Shifts and rotates (44_shift_rotate.md R160 to R164): the four operations as functions on numbers, and each form by
the one shift of A or of memory that its meaning is. Settles O12 and O13. -/

namespace Sys2Proof.Machine

/-- A shift or rotate as numbers: its result from the byte and the old Carry, its carry-out from the byte (R160). -/
def ShiftComputes (f : Byte → Bool → Byte × Bool) (result : Nat → Nat → Nat) (carry : Nat → Bool) : Prop :=
  ∀ v c, (f v c).1.toNat = result v.toNat c.toNat ∧ (f v c).2 = carry v.toNat

theorem getLsbD_seven_eq_decide (v : Byte) : v.getLsbD 7 = decide (128 ≤ v.toNat) :=
  (BitVec.msb_eq_getLsbD_last v).symm.trans (BitVec.msb_eq_decide v)

theorem getLsbD_zero_eq_decide (v : Byte) : v.getLsbD 0 = decide (v.toNat % 2 = 1) := Nat.testBit_zero _

theorem shiftLeft_computes :
    ShiftComputes (fun v _ => shiftLeft v) (fun v _ => 2 * v % 256) (fun v => decide (128 ≤ v)) := by
  intro v _
  refine ⟨?_, getLsbD_seven_eq_decide v⟩
  rw [shiftLeft_fst, BitVec.toNat_ofNat]

theorem shiftRight_computes :
    ShiftComputes (fun v _ => shiftRight v) (fun v _ => v / 2) (fun v => decide (v % 2 = 1)) := by
  intro v _
  refine ⟨?_, getLsbD_zero_eq_decide v⟩
  rw [shiftRight_fst, BitVec.toNat_ofNat]
  exact Nat.mod_eq_of_lt (by omega)

theorem rotateLeft_computes :
    ShiftComputes rotateLeft (fun v c => (2 * v + c) % 256) (fun v => decide (128 ≤ v)) := by
  intro v c
  refine ⟨?_, getLsbD_seven_eq_decide v⟩
  rw [rotateLeft_fst, BitVec.toNat_ofNat]

/-- The halved byte and the old Carry at bit 7 fit a byte. -/
theorem rotateRight_computes :
    ShiftComputes rotateRight (fun v c => v / 2 + 128 * c) (fun v => decide (v % 2 = 1)) := by
  intro v c
  refine ⟨?_, getLsbD_zero_eq_decide v⟩
  have hc : c.toNat ≤ 1 := c.toNat_le
  rw [rotateRight_fst, BitVec.toNat_ofNat]
  exact Nat.mod_eq_of_lt (by omega)

/-- Where memory is as after one core write, that one byte is stored, whatever draws were taken besides. -/
theorem storedOnly_of_write {s t : State} {ea : Nat} {v : Byte} (hm : t.mem = Memory.write s.mem ea v)
    (hr : t.ramDraw = s.ramDraw) : StoredOnly s t (maskAddr ea) v := by
  have hread {b : Nat} (hb : maskAddr b ≠ 0x2000) : t.byteAt b = (writeByte ea v s).byteAt b :=
    State.byteAt_congr_of_ne (s := writeByte ea v s) hm hr hb
  obtain ⟨hstored, hkept⟩ : StoredOnly s (writeByte ea v s) (maskAddr ea) v := storedOnly_of_byteAt fun _ => rfl
  constructor
  · intro hs
    have hne : maskAddr (maskAddr ea) ≠ 0x2000 := by
      rw [maskAddr_maskAddr]
      unfold Stores at hs
      omega
    rw [hread hne, hstored hs]
  · intro b hlt hne hn
    rw [hread (by rwa [maskAddr_of_lt hlt]), hkept b hlt hne hn]

section
variable {f : Byte → Bool → Byte × Bool} {result : Nat → Nat → Nat} {carry : Nat → Bool} {i : Instr}

/-- `A <- r; P.C <- c; SetNZ(r)` (R161 to R164). -/
theorem shiftsA_of_exec (hf : ShiftComputes f result carry)
    (h : ∀ s, exec i s = .next (shiftTarget f .accumulator s)) : ShiftsA result carry i := by
  intro s
  obtain ⟨hresult, hcarry⟩ := hf s.a (getFlag .C s.p)
  refine ⟨_, _, (h s).trans (congrArg _ (shiftTarget_accumulator f s)), hresult, ?_⟩
  rw [← hcarry]
  exact flagsSet_shiftStatus _ _

/-- One read, the flags, and the result written back to the address read (R161 to R164, 40_addressing.md R114). -/
theorem shiftsMemory_of_exec {r : MemRef} (hf : ShiftComputes f result carry)
    (h : ∀ s, exec i s = .next (shiftTarget f (.memory r) s)) : ShiftsMemory result carry i r := by
  intro s
  obtain ⟨hresult, hcarry⟩ := hf (operandOf (.memory r) s) (getFlag .C s.p)
  refine ⟨_, _, (h s).trans (congrArg _ (shiftTarget_memory f r s)), rfl, hresult, ?_, storedOnly_of_write rfl rfl⟩
  rw [← hcarry]
  exact flagsSet_shiftStatus _ _

end

end Sys2Proof.Machine

namespace Sys2Proof

open Sys2Proof.Machine

/-- Settles O12: each form is one shift of A, and the shift is known as numbers. -/
theorem shiftsOfAccumulator : Obligations.ShiftsOfAccumulator :=
  ⟨⟨encodedAs_of_encode rfl, shiftsA_of_exec shiftLeft_computes fun _ => rfl⟩,
    ⟨encodedAs_of_encode rfl, shiftsA_of_exec shiftRight_computes fun _ => rfl⟩,
    ⟨encodedAs_of_encode rfl, shiftsA_of_exec rotateLeft_computes fun _ => rfl⟩,
    ⟨encodedAs_of_encode rfl, shiftsA_of_exec rotateRight_computes fun _ => rfl⟩⟩

/-- Settles O13: each form is one shift of the byte its mode names, written back. -/
theorem shiftsOfMemory : Obligations.ShiftsOfMemory := by
  refine ⟨?aslZeroPage, ?aslZeroPageX, ?aslAbsolute, ?aslAbsoluteX, ?lsrZeroPage, ?lsrZeroPageX, ?lsrAbsolute,
    ?lsrAbsoluteX, ?rolZeroPage, ?rolZeroPageX, ?rolAbsolute, ?rolAbsoluteX, ?rorZeroPage, ?rorZeroPageX, ?rorAbsolute,
    ?rorAbsoluteX⟩
  case aslZeroPage | aslZeroPageX | aslAbsolute | aslAbsoluteX =>
    exact fun _ => ⟨encodedAs_of_encode rfl, shiftsMemory_of_exec shiftLeft_computes fun _ => rfl⟩
  case lsrZeroPage | lsrZeroPageX | lsrAbsolute | lsrAbsoluteX =>
    exact fun _ => ⟨encodedAs_of_encode rfl, shiftsMemory_of_exec shiftRight_computes fun _ => rfl⟩
  case rolZeroPage | rolZeroPageX | rolAbsolute | rolAbsoluteX =>
    exact fun _ => ⟨encodedAs_of_encode rfl, shiftsMemory_of_exec rotateLeft_computes fun _ => rfl⟩
  case rorZeroPage | rorZeroPageX | rorAbsolute | rorAbsoluteX =>
    exact fun _ => ⟨encodedAs_of_encode rfl, shiftsMemory_of_exec rotateRight_computes fun _ => rfl⟩

end Sys2Proof
end

section
/-! SUPPORT. Increment and decrement (45_incdec.md R170 to R176): one byte of memory stepped modulo 256 and written back, and the
index registers by the one register write their meaning is. Settles O14 and O15. -/

namespace Sys2Proof.Machine

/-- `r <- (Operand(m) + delta) & 0xFF; SetNZ(r)`, and `r` written back to the address read (R171, R172). -/
theorem addsToMemory_of_exec {f : Byte → Byte} {delta : Nat} {i : Instr} {r : MemRef}
    (hf : ∀ v, f v = BitVec.ofNat 8 (v.toNat + delta)) (h : ∀ s, exec i s = .next (modifyMemory f r s)) :
    AddsToMemory delta i r := by
  intro s
  refine ⟨f (operandOf (.memory r) s), _, (h s).trans (congrArg _ (modifyMemory_eq f r s)), rfl, ?result,
    flagsSet_setNZ _ _, storedOnly_of_write rfl rfl⟩
  case result => rw [hf, BitVec.toNat_ofNat]

end Sys2Proof.Machine

namespace Sys2Proof

open Sys2Proof.Machine

/-- Settles O14: each form steps the byte its mode names, and taking 1 is adding 255. -/
theorem incrementDecrementMemory : Obligations.IncrementDecrementMemory := by
  refine ⟨?incZeroPage, ?incZeroPageX, ?incAbsolute, ?incAbsoluteX, ?decZeroPage, ?decZeroPageX, ?decAbsolute, ?decAbsoluteX⟩
  case incZeroPage | incZeroPageX | incAbsolute | incAbsoluteX =>
    exact fun _ => ⟨encodedAs_of_encode rfl, addsToMemory_of_exec add_one_eq_ofNat fun _ => rfl⟩
  case decZeroPage | decZeroPageX | decAbsolute | decAbsoluteX =>
    exact fun _ => ⟨encodedAs_of_encode rfl, addsToMemory_of_exec sub_one_eq_ofNat fun _ => rfl⟩

/-- Settles O15: each is one index register write with N and Z. -/
theorem incrementDecrementIndex : Obligations.IncrementDecrementIndex := by
  refine ⟨?inx, ?iny, ?dex, ?dey⟩
  all_goals exact ⟨encodedAs_of_encode rfl, writesRegNZ_of_exec fun _ => rfl⟩

end Sys2Proof
end

section
/-! SUPPORT. Compares (46_compare.md R180 to R183): each form by the one shared operation its meaning is, with Negative as a number.
Settles O16. -/

namespace Sys2Proof.Machine

/-- Bit 7 of the difference modulo 256 (R180). -/
theorem getLsbD_seven_sub (v m : Byte) :
    (v - m).getLsbD 7 = decide (128 ≤ (v.toNat + 256 - m.toNat) % 256) := by
  have hdiff : (v - m).toNat = (v.toNat + 256 - m.toNat) % 256 := by
    rw [BitVec.toNat_sub]
    omega
  rw [getLsbD_seven_eq_decide, hdiff]

/-- `Compare(reg, Operand(m))` writes P alone, and the read of its operand the draw count (R180). -/
theorem compares_of_exec {reg : State → Byte} {i : Instr} {src : Source}
    (h : ∀ s, exec i s = .next (compareWith (reg s) src s)) : Compares reg i src := by
  intro s
  have hflags := flagsSet_compareStatus (reg s) (operandOf src s) s.p
  rw [getLsbD_seven_sub, beq_eq_decide] at hflags
  exact ⟨_, (h s).trans (congrArg _ (compareWith_eq _ _ _)), hflags⟩

end Sys2Proof.Machine

namespace Sys2Proof

open Sys2Proof.Machine

/-- Settles O16: each form is one compare of its register with the source its mode names. -/
theorem compareFlags : Obligations.CompareFlags := by
  unfold Obligations.CompareFlags
  and_intros
  all_goals exact fun _ => ⟨encodedAs_of_encode rfl, compares_of_exec fun _ => rfl⟩

end Sys2Proof
end

section
/-! SUPPORT. One step and the run loop (60_exceptions.md R230 to R237): the bytes a fetch reads are the three at PC, so that the
instruction they decode to is the one run; then what a step answers and reports, branch by branch. Settles O26, O33 to O37
and O58. -/

namespace Sys2Proof.Machine

/-! The bytes of the fetch. -/

/-- A byte further on in the stream reads as before the fetch: were it at 0x2000, the byte fetched is not, and takes no draw. -/
theorem byteAt_fetch8_snd {k : Nat} (hk : k + 1 < 0x10000) (s : State) :
    (fetch8 s).2.byteAt ((s.pc + 1).toNat + k) = s.byteAt (s.pc.toNat + (k + 1)) := by
  have hmask : maskAddr ((s.pc + 1).toNat + k) = maskAddr (s.pc.toNat + (k + 1)) := by
    unfold maskAddr
    bv_omega
  rw [← State.byteAt_maskAddr, hmask, State.byteAt_maskAddr]
  by_cases h : maskAddr (s.pc.toNat + (k + 1)) = 0x2000
  · have hfirst : maskAddr s.pc.toNat ≠ 0x2000 := by
      unfold maskAddr at h ⊢
      omega
    rw [fetch8_eq, drawsOf_of_ne hfirst]
    rfl
  · exact State.byteAt_congr_of_ne (s := s) (t := (fetch8 s).2) rfl rfl h

/-- The bytes of the stream are those from PC on, as they read before the first of them is fetched (10_state.md R24). -/
theorem fetchBytes_fst {n : Nat} (hn : n ≤ 0x10000) (s : State) :
    (fetchBytes n s).1 = (List.range n).map fun k => s.byteAt (s.pc.toNat + k) := by
  induction n generalizing s with
  | zero => rfl
  | succ n ih =>
    have htail : (fetchBytes n (fetch8 s).2).1 = (List.range n).map fun k => s.byteAt (s.pc.toNat + (k + 1)) := by
      rw [ih (by omega)]
      refine List.map_congr_left fun k hk => byteAt_fetch8_snd ?_ s
      have := List.mem_range.1 hk
      omega
    rw [List.range_succ_eq_map, List.map_cons, List.map_map]
    exact congrArg (_ :: ·) htail

/-- The fetch gives the instruction that the bytes at PC decode to (R85, R230). -/
theorem fetchInstr_of_decode {s : State} {i : Instr} {rest : List Byte} (h : decode (bytesAtPc s) = .ok (i, rest)) :
    fetchInstr s = (.ok i, afterFetch i.length s) := by
  cases hop : dispatcher (s.byteAt s.pc.toNat) with
  | none => simp [bytesAtPc, decode, hop] at h
  | some e =>
    obtain ⟨j, hf, henc⟩ := fetchInstr_of_valid hop
    have hlen : j.length ≤ 3 := by
      have := j.mode.operandBytes_le
      rw [j.length_eq]
      omega
    have htake : encode j = (bytesAtPc s).take j.length := by
      change _ = ((List.range 3).map fun k => s.byteAt (s.pc.toNat + k)).take j.length
      rw [henc, fetchBytes_fst (by omega), ← List.map_take, List.take_range, Nat.min_eq_left hlen]
    rw [← List.take_append_drop j.length (bytesAtPc s), ← htake, decode_encode_append] at h
    cases h
    exact hf

/-- A fetched opcode with no operand is decoded by itself, whatever the two bytes after it (R85). -/
theorem fetchInstr_of_byteAt {s : State} {i : Instr} {op : Byte} (henc : encode i = [op]) (hop : s.byteAt s.pc.toNat = op) :
    fetchInstr s = (.ok i, afterFetch 1 s) := by
  have hlen : i.length = 1 := congrArg List.length henc
  have hdec : decode (bytesAtPc s) = .ok (i, [s.byteAt (s.pc.toNat + 1), s.byteAt (s.pc.toNat + 2)]) := by
    rw [bytesAtPc, hop, ← decode_encode_append i, henc]
    rfl
  rw [← hlen]
  exact fetchInstr_of_decode hdec

/-- Any byte but the placeholder reads as before the fetch, those of the stack among them. -/
theorem byteAt_afterFetch {addr : Nat} (h : maskAddr addr ≠ 0x2000) (n : Nat) (s : State) :
    (afterFetch n s).byteAt addr = s.byteAt addr :=
  State.byteAt_congr_of_ne (s := s) (t := afterFetch n s) rfl rfl h

/-! What a step answers. -/

/-- Every instruction answers a next state (R234). -/
theorem exec_next (i : Instr) (s : State) : ∃ t, exec i s = .next t := by
  obtain ⟨f, -, hf⟩ := exec_meaning i
  exact ⟨f s, hf s⟩

theorem step_next (s : State) : ∃ t, step s = .next t := by
  cases hr : s.ready with
  | false => exact ⟨s, step_of_halted hr⟩
  | true =>
    obtain ⟨i, hf⟩ | hf := fetchInstr_cases s
    · rw [step_of_ok hr hf]
      exact exec_next i _
    · exact ⟨_, step_of_error hr hf⟩

/-- The iteration of the host's interface goes on from the next state. -/
theorem coreRun_succ {s t : State} (h : step s = .next t) (n : Nat) :
    Host.Core.run core (n + 1) s = Host.Core.run core n t := by
  have hcore : core.step s = .next t := h
  simp only [Host.Core.run, hcore]

/-! The number of accesses. -/

theorem length_streamReads (n : Nat) (pc : Addr) : (streamReads n pc).length = n := by
  induction n generalizing pc with
  | zero => rfl
  | succ n ih => exact congrArg (· + 1) (ih _)

/-- Three bytes leave at most two accesses (JSR, an absolute INC), two bytes at most three (an indirect load), and one byte at
most three (RTI). -/
theorem length_add_length_bodyAccesses_le (i : Instr) (s : State) : i.length + (bodyAccesses i s).length ≤ 5 := by
  cases i <;> exact Nat.le_of_ble_eq_true rfl

end Sys2Proof.Machine

namespace Sys2Proof

open Sys2Proof.Machine

/-- Settles O34, by the fetch of the decoded instruction. -/
theorem stepRunsDecodedInstruction : Obligations.StepRunsDecodedInstruction :=
  fun _ _ _ hr h => step_of_ok hr (fetchInstr_of_decode h)

/-- Settles O35, by the halted branch of the step, its report, its accesses and the run loop. -/
theorem haltedStepChangesNothing : Obligations.HaltedStepChangesNothing :=
  fun _ => ⟨fun hr => ⟨step_of_halted hr, report_of_halted hr, accesses_of_halted hr, runLoop_of_halted hr⟩, rfl, rfl⟩

/-- Settles O26: a meaning answers a next state and its frame keeps the latch. -/
theorem everyInstructionCompletes : Obligations.EveryInstructionCompletes := by
  refine ⟨fun i s => ?_, step_next⟩
  obtain ⟨t, ht⟩ := exec_next i s
  exact ⟨t, ht, (exec_frame ht).fault⟩

/-- Settles O33: the bytes of the instruction and its own accesses, or the one byte of an invalid opcode. -/
theorem stepMakesAtMostFiveAccesses : Obligations.StepMakesAtMostFiveAccesses := by
  intro s
  cases hr : s.ready with
  | false => simp [accesses_of_halted hr]
  | true =>
    obtain ⟨i, hf⟩ | hf := fetchInstr_cases s
    · rw [accesses_of_ok hr hf, List.length_append, length_streamReads]
      exact length_add_length_bodyAccesses_le i _
    · rw [accesses_of_error hr hf, length_streamReads]
      decide

/-- Settles O36: the fetch of the opcode alone, and then the exception with PC put back. -/
theorem invalidOpcodeHaltsPrecisely : Obligations.InvalidOpcodeHaltsPrecisely := by
  intro s hr hop
  have hf := fetchInstr_of_invalid ((decodeOpcode_eq_none _).1 hop)
  refine ⟨?_, report_of_error hr hf, accesses_of_error hr hf⟩
  rw [step_of_error hr hf, placeholderReads_read_toNat_cons, placeholderReads_nil, Nat.zero_add]
  rfl

/-- Settles O37, by the three ways a step ends: the core is halted, the opcode is invalid, or an instruction is run. -/
theorem reportOfStep : Obligations.ReportOfStep := by
  intro s t h
  cases hr : s.ready with
  | false =>
    rw [step_of_halted hr] at h
    cases h
    simp [report_of_halted hr, hr]
  | true =>
    cases hop : dispatcher (s.byteAt s.pc.toNat) with
    | none =>
      have hf := fetchInstr_of_invalid hop
      rw [step_of_error hr hf] at h
      cases h
      simp [report_of_error hr hf, decodeOpcode_eq_none, hop, takeInvalidOpcode]
    | some e =>
      obtain ⟨i, hf, -⟩ := fetchInstr_of_valid hop
      rw [step_of_ok hr hf] at h
      rw [report_of_ok hr hf h]
      cases t.ready <;> simp [decodeOpcode_eq_none, hop]

/-- Settles O58, by induction on the fuel: the loop goes on from the next state, and a halted core stays. -/
theorem runLoopIteratesStep : Obligations.RunLoopIteratesStep := by
  constructor
  · intro n
    induction n with
    | zero => exact fun _ => rfl
    | succ n ih =>
      intro s
      obtain ⟨t, ht⟩ := step_next s
      rw [runLoop_succ ht, coreRun_succ ht, ih]
  · intro n k s t h hr
    induction n generalizing s with
    | zero =>
      cases h
      exact runLoop_of_halted hr _
    | succ n ih =>
      obtain ⟨s', hs'⟩ := step_next s
      rw [runLoop_succ hs'] at h
      rw [Nat.succ_add, runLoop_succ hs', ih _ h]

end Sys2Proof
end

section
/-! SUPPORT. Branches and jumps (47_branch_jump.md R190 to R199): the displacement as a number, each branch by the flag it tests,
and the indirect target as a word read. Settles O17 and O18. -/

namespace Sys2Proof.Machine

/-- `(PC + sext_8(d)) & 0xFFFF` (R190). -/
theorem toNat_branchTarget (pc : Addr) (d8 : Byte) :
    ((branchTarget pc d8).toNat : Int) =
      ((pc.toNat : Int) + if d8.toNat < 128 then (d8.toNat : Int) else d8.toNat - 256) % 65536 := by
  rw [branchTarget, sext8, BitVec.toNat_ofInt]
  omega

/-- A branch writes PC alone; `test` is what it makes of the flag (R191 to R198). -/
theorem branchesWhen_of_exec {f : Flag} {b : Bool} {op : Byte} {mk : Byte → Instr} (test : Bool → Bool)
    (htest : ∀ v, test v = true ↔ v = b) (henc : ∀ d8, encode (mk d8) = [op, d8])
    (h : ∀ d8 s, exec (mk d8) s = .next (branchIf (test (getFlag f s.p)) d8 s)) : BranchesWhen f b op mk := by
  intro d8
  refine ⟨encodedAs_of_encode (henc d8), fun s => ⟨_, (h d8 s).trans (congrArg _ (branchIf_eq _ d8 s)), ?_, ?_⟩⟩
  · intro htaken
    rw [if_pos ((htest _).2 htaken)]
    exact toNat_branchTarget s.pc d8
  · intro hnot
    exact if_neg fun htrue => hnot ((htest _).1 htrue)

/-- On this hardware the indirect target is the word at the operand address (40_addressing.md R110). -/
theorem indirectTarget_eq_readWord (d16 : Addr) (s : State) : indirectTarget d16 s = readWord d16.toNat s := rfl

/-- The page of a 16-bit address. -/
theorem and_0xFF00_eq {n : Nat} (h : n < 0x10000) : n &&& 0xFF00 = 2 ^ 8 * (n / 256) := by
  have hdiv : (n &&& 0xFF00) / 2 ^ 8 = n / 256 &&& 0xFF := Nat.and_div_two_pow
  have hmod : (n &&& 0xFF00) % 2 ^ 8 = n % 256 &&& 0 := Nat.and_mod_two_pow
  rw [and_0xFF_eq_mod] at hdiv
  rw [Nat.and_zero] at hmod
  omega

/-- The second byte from the pointer's own page, as a number (R110 under `IND_JMP_PAGE_WRAP`). -/
theorem jmpPointerHigh_true (d16 : Addr) :
    jmpPointerHigh true d16.toNat = d16.toNat / 256 * 256 + (d16.toNat + 1) % 256 := by
  have hlt : (d16.toNat + 1) % 256 < 2 ^ 8 := Nat.mod_lt _ (by decide)
  rw [jmpPointerHigh, if_pos rfl, and_0xFF_eq_mod, and_0xFF00_eq d16.isLt, ← Nat.two_pow_add_eq_or_of_lt hlt, Nat.mul_comm]

/-- The two reads of a word are at different addresses, so the second sees no draw of the first. -/
theorem readPair_fst_of_ne {lo hi : Nat} (h : maskAddr lo ≠ maskAddr hi) (s : State) :
    (readPair lo hi s).1 = joinBytes (s.byteAt hi) (s.byteAt lo) := by
  rw [readPair_eq]
  by_cases hlo : maskAddr lo = 0x2000
  · rw [State.byteAt_setDraws (hlo ▸ h.symm)]
  · rw [drawsOf_of_ne hlo]
    rfl

end Sys2Proof.Machine

namespace Sys2Proof

open Sys2Proof.Machine

/-- Settles O17: each is one branch on its flag, or on the flag negated. -/
theorem branchesFollowTheirFlag : Obligations.BranchesFollowTheirFlag := by
  refine ⟨?bpl, ?bmi, ?bvc, ?bvs, ?bcc, ?bcs, ?bne, ?beq⟩
  case bpl | bvc | bcc | bne => exact branchesWhen_of_exec (!·) (by decide) (fun _ => rfl) fun _ _ => rfl
  case bmi | bvs | bcs | beq => exact branchesWhen_of_exec id (by decide) (fun _ => rfl) fun _ _ => rfl

/-- Settles O18: the operand, the word at the operand address, and the two bytes of one page under the parameter. -/
theorem jumpTargets : Obligations.JumpTargets := by
  refine ⟨fun d16 => ⟨encodedAs_of_encode rfl, fun s => rfl⟩, fun d16 => ⟨encodedAs_of_encode rfl, fun s => ?_⟩,
    fun d16 s => ?_⟩
  · have hmask : (d16.toNat + 1) % 0x10000 = maskAddr (d16.toNat + 1) := rfl
    have hexec : exec (.jmpIndirect d16) s = .next (jumpIndirect d16 s) := rfl
    rw [hexec, jumpIndirect_eq, indirectTarget_eq_readWord, readWord_eq, hmask, State.byteAt_maskAddr,
      placeholderReads_read_toNat_cons, placeholderReads_read_maskAddr_cons, placeholderReads_nil, Nat.zero_add,
      Nat.add_comm (drawsOf (d16.toNat + 1)), ← Nat.add_assoc]
    rfl
  · have hne : maskAddr d16.toNat ≠ maskAddr (jmpPointerHigh true d16.toNat) := by
      rw [jmpPointerHigh_true]
      unfold maskAddr
      omega
    rw [indirectTargetWith, readPair_fst_of_ne hne, jmpPointerHigh_true]

end Sys2Proof
end

section
/-! SUPPORT. Stack and subroutine instructions (48_stack_subroutine.md R200 to R207): one push, one pull, and the word of JSR, RTS
and RTI by the layout of the stack. Settles O19 to O23. -/

namespace Sys2Proof.Machine

/-- One push stores its byte at the old S (10_state.md R32). -/
theorem storedOnly_push8 (v : Byte) (s : State) : StoredOnly s (push8 v s) (0x100 + s.sp.toNat) v := by
  have h : StoredOnly s (push8 v s) (maskAddr (stackAddr s.sp)) v := storedOnly_of_write rfl rfl
  rwa [maskAddr_stackAddr, stackAddr_eq] at h

/-- The word at the top of the stack is the same after a fetch, which changes no byte of page 1. -/
theorem pull16_afterFetch_fst (n : Nat) (s : State) : (pull16 (afterFetch n s)).1 = (pull16 s).1 := by
  have hbyte (sp : Byte) : (afterFetch n s).byteAt (stackAddr sp) = s.byteAt (stackAddr sp) :=
    byteAt_afterFetch (stackAddr_ne_placeholder sp) n s
  rw [pull16_eq, pull16_eq, hbyte, hbyte]
  rfl

/-- RTS after the push of JSR: the word comes back, one more, and S as it was (R207). -/
theorem returnFromSubroutine_of_push16 (v target : Addr) (n : Nat) (s : State) :
    (returnFromSubroutine (afterFetch n ((push16 v s).setPc target))).pc = v + 1 ∧
      (returnFromSubroutine (afterFetch n ((push16 v s).setPc target))).sp = s.sp := by
  have hword : (pull16 ((push16 v s).setPc target)).1 = v := congrArg Prod.fst (pull16_push16 v s)
  have hsp : (push16 v s).sp + 1 + 1 = s.sp := congrArg (fun r => r.2.sp) (pull16_push16 v s)
  rw [returnFromSubroutine_eq, pull16_afterFetch_fst, hword]
  exact ⟨rfl, hsp⟩

/-- The step of a JSR: the address of its last byte pushed, and PC at the word its two operand bytes make (R204). -/
theorem step_of_jsr {s : State} (hr : s.ready = true) (hop : s.byteAt s.pc.toNat = 0x20) :
    step s = .next ((push16 (s.pc + 2) (afterFetch 3 s)).setPc
      (joinBytes (s.byteAt (s.pc.toNat + 2)) (s.byteAt (s.pc.toNat + 1)))) := by
  have hdec : decode (bytesAtPc s) =
      .ok (.jsr (joinBytes (s.byteAt (s.pc.toNat + 2)) (s.byteAt (s.pc.toNat + 1))), []) := by
    rw [bytesAtPc, hop]
    rfl
  have hpushed : (afterFetch 3 s).pc - 1 = s.pc + 2 := by
    change s.pc + 3 - 1 = s.pc + 2
    bv_omega
  rw [step_of_ok hr (fetchInstr_of_decode hdec), ← hpushed]
  rfl

/-- The step of an RTS (R205). -/
theorem step_of_rts {s : State} (hr : s.ready = true) (hop : s.byteAt s.pc.toNat = 0x60) :
    step s = .next (returnFromSubroutine (afterFetch 1 s)) :=
  step_of_ok hr (fetchInstr_of_byteAt (i := .rts) rfl hop)

end Sys2Proof.Machine

namespace Sys2Proof

open Sys2Proof.Machine

/-- Settles O19: each is one push. -/
theorem pushInstructions : Obligations.PushInstructions := by
  refine ⟨⟨encodedAs_of_encode rfl, fun s => ⟨_, rfl, rfl, ?_⟩⟩, encodedAs_of_encode rfl, fun s => ⟨_, rfl, rfl, ?_⟩⟩
  all_goals exact storedOnly_push8 _ s

/-- Settles O20: each is one pull, and PLA writes its register with N and Z. -/
theorem pullInstructions : Obligations.PullInstructions := by
  have hpla (s : State) : exec .pla s = .next (pullA s) := rfl
  have hplp (s : State) : exec .plp s = .next (pullP s) := rfl
  simp only [Obligations.PullInstructions, ← stackAddr_eq, hpla, hplp, pullA_eq, pullP_eq]
  exact ⟨⟨encodedAs_of_encode rfl, fun s => ⟨_, rfl, flagsSet_setNZ _ _⟩⟩, encodedAs_of_encode rfl, fun s => rfl⟩

/-- Settles O21, by the layout of a pushed word. -/
theorem jsrPushesReturnAddress : Obligations.JsrPushesReturnAddress := by
  refine fun d16 => ⟨encodedAs_of_encode rfl, fun s => ?_⟩
  obtain ⟨hstate, hhigh, hlow, hkept, -, -⟩ := stackWordLayoutAndRoundTrip (s.pc - 1) s
  exact ⟨_, rfl, congrArg (State.setPc · d16) hstate, hhigh, hlow, hkept⟩

/-- Settles O22, by the bytes above S. -/
theorem returnsPullPc : Obligations.ReturnsPullPc := by
  have hrts (s : State) : exec .rts s = .next (returnFromSubroutine s) := rfl
  have hrti (s : State) : exec .rti s = .next (returnFromInterrupt s) := rfl
  have htwo (sp : Byte) : sp + 1 + 1 = sp + 2 := BitVec.add_assoc sp 1 1
  have hthree (sp : Byte) : sp + 2 + 1 = sp + 3 := BitVec.add_assoc sp 2 1
  simp only [Obligations.ReturnsPullPc, ← stackAddr_eq, hrts, hrti, returnFromSubroutine_eq, returnFromInterrupt_eq,
    pull16_eq, htwo, hthree]
  exact ⟨⟨encodedAs_of_encode rfl, fun s => rfl⟩, encodedAs_of_encode rfl, fun s => rfl⟩

/-- Settles O23: the second step pulls the word that the first has pushed. -/
theorem subroutineRoundTrip : Obligations.SubroutineRoundTrip := by
  intro s hr hop
  obtain ⟨hstate, hhigh, hlow, -⟩ := stackWordLayoutAndRoundTrip (s.pc + 2) (afterFetch 3 s)
  refine ⟨_, step_of_jsr hr hop, rfl, congrArg State.sp hstate, ?_, fun hrts => ⟨_, step_of_rts hr hrts, ?_⟩⟩
  · exact (congrArg₂ joinBytes hhigh hlow).trans (joinBytes_highByte_lowByte _)
  · obtain ⟨hpc, hsp⟩ := returnFromSubroutine_of_push16 (s.pc + 2) _ 1 (afterFetch 3 s)
    exact ⟨hpc.trans (BitVec.add_assoc s.pc 2 1), hsp⟩

end Sys2Proof
end

section
/-! SUPPORT. Flag instructions, BRK and NOP (49_flags_halt_nop.md R210 to R219): one flag written, and the steps of
the two instructions that write none. Settles O24 and O25. -/

namespace Sys2Proof.Machine

/-- `P.f <- b` (R211 to R217). -/
theorem setsFlag_of_exec {f : Flag} {b : Bool} {i : Instr} (h : ∀ s, exec i s = .next (s.setP (setFlag f b s.p))) :
    SetsFlag f b i :=
  fun s => ⟨_, h s, flagsSet_setFlag f b s.p⟩

end Sys2Proof.Machine

namespace Sys2Proof

open Sys2Proof.Machine

/-- Settles O24: each writes its one flag. -/
theorem flagInstructionsWriteOneFlag : Obligations.FlagInstructionsWriteOneFlag := by
  refine ⟨?clc, ?sec, ?cli, ?sei, ?cld, ?sed, ?clv⟩
  all_goals exact ⟨encodedAs_of_encode rfl, setsFlag_of_exec fun _ => rfl⟩

/-- Settles O25: each step runs the instruction of its one byte. -/
theorem brkHaltsAndNopDoesNothing : Obligations.BrkHaltsAndNopDoesNothing := by
  refine ⟨⟨encodedAs_of_encode rfl, fun s => rfl, fun s hr hop => ?_⟩, encodedAs_of_encode rfl, fun s => rfl,
    fun s hr hop => ?_⟩
  · have hf := fetchInstr_of_byteAt (i := .brk) rfl hop
    exact ⟨step_of_ok hr hf, report_of_ok hr hf rfl⟩
  · have hf := fetchInstr_of_byteAt (i := .nop) rfl hop
    exact ⟨step_of_ok hr hf, (report_of_ok hr hf rfl).trans (if_pos hr)⟩

end Sys2Proof
end

section
/-! SUPPORT. What the host does between steps (60_exceptions.md R244; 70_reset_and_hazards.md R260 to R264): one element of a
backing array against every read, Reset and PowerOn as one equation each, and memory after RAM is forgotten. Settles O55, O56
and O57. -/

namespace Sys2Proof.Machine

/-! The accessors. -/

/-- The mask of a register setter is the truncation to its width (R244). -/
theorem ofNat_mod_two_pow (w v : Nat) : BitVec.ofNat w (v % 2 ^ w) = BitVec.ofNat w v := by
  apply BitVec.eq_of_toNat_eq
  simp

/-- Every element of an array has a 16-bit address in a backing array (20_memory.md R51 to R53). -/
theorem backed_base_add {arr : BackingArray} {off : Nat} (h : off < arr.size) :
    backed (arr.base + off) = true ∧ arr.base + off < 0x10000 := by
  cases arr
  all_goals
    simp only [BackingArray.base, BackingArray.size] at h ⊢
    refine ⟨?_, by omega⟩
    unfold backed region
    grind

/-- No two elements share an address (R62). -/
theorem eq_of_base_add_eq {arr arr' : BackingArray} {off off' : Nat} (h : off < arr.size) (h' : off' < arr'.size)
    (heq : arr'.base + off' = arr.base + off) : (arr', off') = (arr, off) := by
  cases arr <;> cases arr'
  all_goals
    simp only [BackingArray.base, BackingArray.size] at h h' heq
    simp only [Prod.mk.injEq, reduceCtorEq, true_and, false_and]
    omega

/-- Every byte after the host has set one element: that element, and any other as before (R244). -/
theorem byteAt_hostSet {arr : BackingArray} {off : Nat} (h : off < arr.size) (v : Byte) (s : State) (b : Nat) :
    (hostSet arr off v s).byteAt b = if maskAddr b = arr.base + off then v else s.byteAt b := by
  obtain ⟨hbacked, -⟩ := backed_base_add h
  have hstore := Memory.byte_store s.mem s.ramDraw s.draws (arr.base + off) b v
  simp only [hbacked, and_true] at hstore
  rw [hostSet, if_pos h]
  exact hstore

theorem hostSet_of_not_lt {arr : BackingArray} {off : Nat} (h : ¬ off < arr.size) (v : Byte) (s : State) :
    hostSet arr off v s = s := if_neg h

theorem hostSet_eq (arr : BackingArray) (off : Nat) (v : Byte) (s : State) :
    hostSet arr off v s = s.setMem (hostSet arr off v s).mem := by
  unfold hostSet
  split <;> rfl

theorem wf_hostSet_mem {s : State} (hm : Memory.wf s.mem) (arr : BackingArray) (off : Nat) (v : Byte) :
    Memory.wf (hostSet arr off v s).mem := by
  unfold hostSet
  split
  · exact Memory.wf_store hm _ _
  · exact hm

/-- The getter sees what the setter set at its own element, and at any other what was there (R244). -/
theorem hostGet_hostSet {arr : BackingArray} {off : Nat} (h : off < arr.size) (v : Byte) (arr' : BackingArray) (off' : Nat)
    (s : State) :
    hostGet arr' off' (hostSet arr off v s) = if (arr', off') = (arr, off) then some v else hostGet arr' off' s := by
  by_cases h' : off' < arr'.size
  · obtain ⟨-, hlt⟩ := backed_base_add h'
    simp only [hostGet, if_pos h', byteAt_hostSet h, maskAddr_of_lt hlt]
    by_cases heq : arr'.base + off' = arr.base + off
    · rw [if_pos heq, if_pos (eq_of_base_add_eq h h' heq)]
    · rw [if_neg heq, if_neg]
      intro hpair
      cases hpair
      exact heq rfl
  · rw [if_neg, hostGet, hostGet, if_neg h', if_neg h']
    intro hpair
    cases hpair
    exact h' h

/-! Reset and PowerOn. -/

/-- `Reset`: the vector is in ROM, so that reading it takes no draw (R262). -/
theorem resetCore_eq (s : State) :
    resetCore s = ((s.setPc (joinBytes (s.byteAt 0xFFFD) (s.byteAt 0xFFFC))).setReady true).setFault none := by
  have hword : readWord 0xFFFC s = (joinBytes (s.byteAt 0xFFFD) (s.byteAt 0xFFFC), s) := readWord_eq 0xFFFC s
  rw [resetCore, hword]

/-- With RAM forgotten, a byte of RAM reads as its own power-on draw (R260). -/
theorem byte_withoutRam_of_ram {addr : Nat} (h : addr < 0x2000) (m : Memory) (rd d : Nat) :
    Memory.byte (Memory.withoutRam m) rd d addr = Config.randByte (rd + addr) := by
  have hmask : maskAddr addr = addr := maskAddr_of_lt (by omega)
  have hram : region addr = .ram := if_pos (by omega)
  simp [Memory.byte, Memory.cell_withoutRam, Memory.unlisted, hmask, hram]

/-- With RAM forgotten, SaveRAM and ROM read as before, whatever the draws (R260). -/
theorem byte_withoutRam_of_ge {addr : Nat} (hlo : 0x6000 ≤ addr) (hhi : addr < 0x10000) (m : Memory) (rd d rd' d' : Nat) :
    Memory.byte (Memory.withoutRam m) rd d addr = Memory.byte m rd' d' addr := by
  have hregion : region addr = .saveRam ∨ region addr = .rom := by
    unfold region
    grind
  obtain hr | hr := hregion
  all_goals simp [Memory.byte, Memory.cell_withoutRam, Memory.unlisted, maskAddr_of_lt hhi, hr]

/-- `PowerOn`, with the vector as it stands in ROM (R260). -/
theorem powerOn_eq (s : State) :
    powerOn s =
      { a := Config.randByte s.draws
        x := Config.randByte (s.draws + 1)
        y := Config.randByte (s.draws + 2)
        sp := Config.randByte (s.draws + 3)
        p := Config.randByte (s.draws + 4)
        pc := joinBytes (s.byteAt 0xFFFD) (s.byteAt 0xFFFC)
        ready := true
        fault := none
        mem := Memory.withoutRam s.mem
        ramDraw := s.draws + 7
        draws := s.draws + 8199 } := by
  have hvector {addr : Nat} (hlo : 0x6000 ≤ addr) (hhi : addr < 0x10000) :
      Memory.byte (Memory.withoutRam s.mem) (s.draws + 7) (s.draws + 8199) addr = s.byteAt addr :=
    byte_withoutRam_of_ge hlo hhi _ _ _ _ _
  have hdraws : s.draws + 7 + 8192 = s.draws + 8199 := Nat.add_assoc _ _ _
  rw [powerOn, resetCore_eq]
  simp only [hdraws, State.byteAt, State.setPc, State.setReady, State.setFault] at hvector ⊢
  rw [hvector (by decide) (by decide), hvector (by decide) (by decide)]

/-- RAM[i] is a draw of its own (R260). -/
theorem hostGet_powerOn_ram {i : Nat} (h : i < 8192) (s : State) :
    hostGet .RAM i (powerOn s) = some (Config.randByte (s.draws + 7 + i)) := by
  have hsize : i < BackingArray.RAM.size := h
  rw [hostGet, if_pos hsize, BackingArray.base, Nat.zero_add, powerOn_eq]
  exact congrArg some (byte_withoutRam_of_ram h s.mem _ _)

/-- PowerOn keeps SaveRAM and ROM (R260). -/
theorem hostGet_powerOn_of_ge {arr : BackingArray} (harr : 0x6000 ≤ arr.base) (i : Nat) (s : State) :
    hostGet arr i (powerOn s) = hostGet arr i s := by
  unfold hostGet
  split
  · next h =>
    obtain ⟨-, hlt⟩ := backed_base_add h
    rw [powerOn_eq]
    exact congrArg some (byte_withoutRam_of_ge (Nat.le_add_right_of_le harr) hlt s.mem _ _ _ _)
  · rfl

end Sys2Proof.Machine

namespace Sys2Proof

open Sys2Proof.Machine

/-- Settles O57: the setters truncate, and one element set is seen at its own address alone. -/
theorem hostAccessorsReadAndSet : Obligations.HostAccessorsReadAndSet := by
  refine ⟨fun v s => ?_, fun arr off v s => ⟨hostSet_eq arr off v s, fun h => ?_, fun arr' off' hne => ?_,
    fun h => hostSet_of_not_lt h v s, fun hm => wf_hostSet_mem hm arr off v⟩⟩
  · have hbyte : BitVec.ofNat 8 (v % 256) = BitVec.ofNat 8 v := ofNat_mod_two_pow 8 v
    have hword : BitVec.ofNat 16 (v % 65536) = BitVec.ofNat 16 v := ofNat_mod_two_pow 16 v
    rw [hbyte, hword]
    exact ⟨rfl, rfl, rfl, rfl, rfl, rfl⟩
  · rw [hostGet_hostSet h, if_pos rfl]
  · by_cases h : off < arr.size
    · rw [hostGet_hostSet h, if_neg hne]
    · rw [hostSet_of_not_lt h]

/-- Settles O55, by the equation of Reset and the two elements of ROM that the vector lies in. -/
theorem resetLoadsPcFromVector : Obligations.ResetLoadsPcFromVector := by
  refine ⟨resetCore_eq, fun s => ⟨?_, rfl⟩⟩
  have hlo : 0x7FFC < BackingArray.ROM.size := by decide
  have hhi : 0x7FFD < BackingArray.ROM.size := by decide
  have hhigh (u : State) : (hostSet .ROM 0x7FFD 0x90 u).byteAt 0xFFFD = 0x90 := by
    rw [byteAt_hostSet hhi, if_pos (by decide)]
  have hlow : (hostSet .ROM 0x7FFD 0x90 (hostSet .ROM 0x7FFC 0x00 s)).byteAt 0xFFFC = 0x00 := by
    rw [byteAt_hostSet hhi, if_neg (by decide), byteAt_hostSet hlo, if_pos (by decide)]
  rw [resetCore_eq, hhigh, hlow]
  rfl

/-- Settles O56: the equation of PowerOn, and each array by its region of the map. -/
theorem powerOnDrawsRegistersAndRam : Obligations.PowerOnDrawsRegistersAndRam := by
  refine ⟨fun s => ?_, fun s hm hd => ?_⟩
  · dsimp only
    refine ⟨rfl, rfl, rfl, rfl, rfl, fun i hi => hostGet_powerOn_ram hi s, fun i => ⟨?_, ?_⟩, ?_⟩
    · exact hostGet_powerOn_of_ge (by decide) i s
    · exact hostGet_powerOn_of_ge (by decide) i s
    · rw [powerOn_eq]
      exact ⟨rfl, rfl, rfl, rfl⟩
  · have hvector {addr : Nat} (hlo : 0x6000 ≤ addr) (hhi : addr < 0x10000) :
        s.byteAt addr = Memory.byte [] 7 8199 addr :=
      (byte_withoutRam_of_ge hlo hhi s.mem _ _ _ _).symm.trans (by rw [hm]; rfl)
    rw [powerOn_eq, hvector (by decide) (by decide), hvector (by decide) (by decide), hm, hd]
    rfl

end Sys2Proof
end
